-- ==== Sys2Proof/Word.lean ====
section
/-! DEFINITION. The two word widths of the machine (R9: 8-bit registers and data bus, 16-bit SP, PC and addresses). -/

namespace Sys2Proof

/-- A `u8` of the spec (R10): a register, a memory byte, an immediate `n`, a displacement byte `e`. -/
abbrev Byte := BitVec 8

/-- A `u16` of the spec (R10): SP, PC, a register pair, an address, an immediate `nn`. -/
abbrev Word := BitVec 16

end Sys2Proof
end

