-- ==== Sys2Proof/Machine/Bits.lean ====
section
/-! DEFINITION. Bit fields, byte order and sign extension (R11, R22, R62, R104) and the layout of the flag byte (R23). -/

namespace Sys2Proof.Machine

/-- `v[15:8]`. -/
def hiByte (v : Word) : Byte := v.extractLsb' 8 8

/-- `v[7:0]`. -/
def loByte (v : Word) : Byte := v.extractLsb' 0 8

/-- `{hi, lo}` (R11). -/
def joinBytes (hi lo : Byte) : Word := hi ++ lo

/-- `sext_16(e)` (R11, R104). -/
def sext16 (e : Byte) : Word := e.signExtend 16

/-- `zext_16(n)` (R11). -/
def zext16 (n : Byte) : Word := n.setWidth 16

/-- The address `0xFF00 + n` of LDH and of `(C)` (R104, R399). -/
def highPage (n : Byte) : Word := 0xFF00#16 + zext16 n

/-- `bool(c)` in bit 0 of a byte (R11). -/
def bit0 (c : Bool) : Byte := if c then 0x01 else 0x00

/-- `c << 7` of a byte. -/
def bit7 (c : Bool) : Byte := if c then 0x80 else 0x00

/-- The flag byte of four flags (R23): Z bit 7, N bit 6, H bit 5, C bit 4, bits 3 to 0 zero. -/
def flagByte (z n h c : Bool) : Byte :=
  (if z then 0x80#8 else 0) ||| (if n then 0x40#8 else 0) ||| (if h then 0x20#8 else 0) |||
    (if c then 0x10#8 else 0)

/-- What a write of the whole F byte stores (R24): `v & 0xF0`. -/
def maskF (v : Byte) : Byte := v &&& 0xF0#8

end Sys2Proof.Machine
end

