-- ==== Sys2Proof/Machine/Cycles.lean ====
section
/-! DEFINITION. The parameter `P_CYCLES`: the table of cycle costs, a look-up in it, and its default (R9, R615 to R617). -/

namespace Sys2Proof

/-- A cell of the base table of R615: the cost not taken and the cost taken. The two differ only for the
conditional transfers (R616). -/
structure Cost where
  notTaken : Nat
  taken    : Nat
deriving DecidableEq, Repr

/-- A cell with one figure. -/
def Cost.one (n : Nat) : Cost := { notTaken := n, taken := n }

/-- A cell of the base table with two figures (R616), as R615 prints them: `not-taken/taken`. -/
def Cost.two (notTaken taken : Nat) : Cost := { notTaken := notTaken, taken := taken }

/-- The cell `-` of R615: the eleven unimplemented bytes and the byte 0xCB have no cost of their own. -/
def Cost.absent : Cost := Cost.one 0

/-- A row of the base table of R615 with no conditional transfer in it. -/
def costRow (l : List Nat) : List Cost := l.map Cost.one

/-- The default of the base table, as R615 prints it: rows are the high nibble, columns the low one. -/
def standardBaseCosts : List Cost :=
  costRow [1, 3, 2, 2, 1, 1, 2, 1, 5, 2, 2, 2, 1, 1, 2, 1] ++
  costRow [1, 3, 2, 2, 1, 1, 2, 1, 3, 2, 2, 2, 1, 1, 2, 1] ++
  (Cost.two 2 3 :: costRow [3, 2, 2, 1, 1, 2, 1] ++ Cost.two 2 3 :: costRow [2, 2, 2, 1, 1, 2, 1]) ++
  (Cost.two 2 3 :: costRow [3, 2, 2, 3, 3, 3, 1] ++ Cost.two 2 3 :: costRow [2, 2, 2, 1, 1, 2, 1]) ++
  costRow [1, 1, 1, 1, 1, 1, 2, 1, 1, 1, 1, 1, 1, 1, 2, 1] ++
  costRow [1, 1, 1, 1, 1, 1, 2, 1, 1, 1, 1, 1, 1, 1, 2, 1] ++
  costRow [1, 1, 1, 1, 1, 1, 2, 1, 1, 1, 1, 1, 1, 1, 2, 1] ++
  costRow [2, 2, 2, 2, 2, 2, 1, 2, 1, 1, 1, 1, 1, 1, 2, 1] ++
  costRow [1, 1, 1, 1, 1, 1, 2, 1, 1, 1, 1, 1, 1, 1, 2, 1] ++
  costRow [1, 1, 1, 1, 1, 1, 2, 1, 1, 1, 1, 1, 1, 1, 2, 1] ++
  costRow [1, 1, 1, 1, 1, 1, 2, 1, 1, 1, 1, 1, 1, 1, 2, 1] ++
  costRow [1, 1, 1, 1, 1, 1, 2, 1, 1, 1, 1, 1, 1, 1, 2, 1] ++
  (Cost.two 2 5 :: costRow [3] ++ Cost.two 3 4 :: costRow [4] ++ Cost.two 3 6 :: costRow [4, 2, 4] ++
    Cost.two 2 5 :: costRow [4] ++ [Cost.two 3 4, Cost.absent, Cost.two 3 6] ++ costRow [6, 2, 4]) ++
  (Cost.two 2 5 :: costRow [3] ++ [Cost.two 3 4, Cost.absent, Cost.two 3 6] ++ costRow [4, 2, 4] ++
    Cost.two 2 5 :: costRow [4] ++ [Cost.two 3 4, Cost.absent, Cost.two 3 6, Cost.absent] ++ costRow [2, 4]) ++
  (costRow [3, 3, 2] ++ [Cost.absent, Cost.absent] ++ costRow [4, 2, 4, 4, 1, 4] ++
    [Cost.absent, Cost.absent, Cost.absent] ++ costRow [2, 4]) ++
  (costRow [3, 3, 2, 1] ++ [Cost.absent] ++ costRow [4, 2, 4, 3, 2, 4, 1] ++
    [Cost.absent, Cost.absent] ++ costRow [2, 4])

/-- A row of the extended table of R615, by its figure in the two columns of (HL). -/
def cbCostRow (onHL : Nat) : List Nat := [2, 2, 2, 2, 2, 2, onHL, 2, 2, 2, 2, 2, 2, 2, onHL, 2]

/-- The default of the extended table (R615): on (HL), 3 for BIT (rows 4x to 7x) and 4 for the others. -/
def standardCBCosts : List Nat :=
  cbCostRow 4 ++ cbCostRow 4 ++ cbCostRow 4 ++ cbCostRow 4 ++
  cbCostRow 3 ++ cbCostRow 3 ++ cbCostRow 3 ++ cbCostRow 3 ++
  cbCostRow 4 ++ cbCostRow 4 ++ cbCostRow 4 ++ cbCostRow 4 ++
  cbCostRow 4 ++ cbCostRow 4 ++ cbCostRow 4 ++ cbCostRow 4

/-- A value of `P_CYCLES` (R615): the cells that differ from the default, of the base table by the opcode byte and
of the extended table by the byte after 0xCB. Every table of costs can be written so, and the default has none
(log entry 3). -/
structure CycleTable where
  base : List (Byte × Cost)
  cb   : List (Byte × Nat)
deriving DecidableEq, Repr

/-- The default of `P_CYCLES` (R615, decision D17). -/
def CycleTable.standard : CycleTable := { base := [], cb := [] }

/-- The cell of a base opcode. -/
def CycleTable.cell (t : CycleTable) (op : Byte) : Cost :=
  (t.base.lookup op).getD (standardBaseCosts.getD op.toNat Cost.absent)

/-- The cost of a base opcode: the taken figure of its cell, or the not-taken one. -/
def CycleTable.cost (t : CycleTable) (op : Byte) (taken : Bool) : Nat :=
  if taken then (t.cell op).taken else (t.cell op).notTaken

/-- The cost of the extended opcode `op2`, both bytes together. -/
def CycleTable.cbCost (t : CycleTable) (op2 : Byte) : Nat :=
  (t.cb.lookup op2).getD (standardCBCosts.getD op2.toNat 0)

/-- The cost of one Halted step (R362, R617, decision D21). It is no part of `P_CYCLES`. -/
def haltedCycles : Nat := 1

/-- The cost of interrupt entry (R518, R617, decision D23). It is no part of `P_CYCLES`. -/
def entryCycles : Nat := 5

end Sys2Proof
end

