-- ==== Sys2Proof/Config.lean ====
section
/-! DEFINITION. The named parameters of R9, and the one value the model chooses for memory. -/

namespace Sys2Proof

/-- `P_DISPATCH` (R9, decision D23): the interrupt dispatcher of R515 to R519 is there, or nothing
ever clears `halted` and no interrupt is entered. -/
inductive Dispatcher where
  | standard
  | absent
deriving DecidableEq, Repr

/-- `P_STOP_LEN` (R9, R382, decision D19): STOP is the byte 0x10 alone, or 0x10 and one more byte. -/
inductive StopLen where
  | one
  | two
deriving DecidableEq, Repr

/-- The number of bytes of STOP (R118). -/
def StopLen.bytes : StopLen → Nat
  | .one => 1
  | .two => 2

/-- The parameters of R9 that change what a step does. They are fixed for a machine: no step changes
them. They stand in `State.cfg` because the host fixes the types of `exec` and `step` (log entry 2).
`P_MEM0` is the argument of `State.launch`. -/
structure Config where
  /-- `P_ROM_END`: writes below this address are dropped (R68, decision D5). -/
  romEnd       : Nat
  /-- `P_DI_CANCELS_EI`: DI cancels a pending EI (R366, decision D20). -/
  diCancelsEi  : Bool
  /-- `P_STOP_LEN`: the length of STOP (R118, R382, decision D19). -/
  stopLen      : StopLen
  /-- `P_CYCLES`: the cycle costs (R615, decision D17). -/
  cycles       : CycleTable
  /-- `P_DISPATCH` (R515, decision D23). -/
  dispatch     : Dispatcher
deriving DecidableEq, Repr

/-- The default of every parameter (R9): "the value this spec uses everywhere else". -/
def Config.standard : Config where
  romEnd      := 0x8000
  diCancelsEi := false
  stopLen     := .two
  cycles      := CycleTable.standard
  dispatch    := .standard

/-- What a byte of memory that is not listed reads as. DESIGN CHOICE (log entry 1): the launch image
`P_MEM0` is OPEN (R602, D29); 0x00 is the byte of 95_test_vectors.md's conventions. -/
def Config.unlistedByte : Byte := 0x00

end Sys2Proof
end

