-- ==== Sys2Proof/Machine/State.lean ====
section
/-! DEFINITION. The state of the machine (10_state.md, R68, R530), the reasons a step can stop, and the state after reset (R40, R601, R602). -/

namespace Sys2Proof.Machine

/-- The causes of a fatal fault (R500). `invalidOperandIndex` is kept because the source names it; no
instruction raises it (R502). -/
inductive FaultKind where
  | unimplementedOpcode
  | invalidOperandIndex
deriving DecidableEq, Repr

/-- The record of a fatal fault (R500): the byte with no table entry, whether it followed 0xCB, and the
address of the instruction's first byte. -/
structure FaultRecord where
  kind     : FaultKind
  opcode   : Byte
  prefixed : Bool
  pc       : Word
deriving DecidableEq, Repr

/-- Memory as (address, byte) pairs in one canonical form (`Memory.wf` in Machine/Ops.lean). -/
abbrev Memory := List Host.Cell

/-- Why a step has no next state. Both are raised by `step` itself (Machine/Step.lean), never by an
instruction, and both are safe: the spec gives these states no step (R361). -/
inductive Fault where
  /-- The run has ended by the fatal fault recorded in the state (R37, R361, R500). Safe. -/
  | runFaulted (r : FaultRecord)
  /-- The run has ended by STOP (R361, R373): "terminal until an external wake condition". Safe. -/
  | runStopped
deriving DecidableEq, Repr

/-- Why an instruction has no meaning. -/
inductive Refusal where
  /-- An arm of `exec` whose instruction has no meaning yet. Safe. No arm of this model uses it. -/
  | notModelled (mnemonic : String)
deriving DecidableEq, Repr

/-- Everything the spec gives the machine, as plain data. -/
structure State where
  /-- A, the accumulator (R20). -/
  a : Byte
  /-- F, the flag byte (R20, R23). Bits 3 to 0 are hardwired to 0 (R24): see `State.readF`, `maskF`. -/
  f : Byte
  /-- B (R20). -/
  b : Byte
  /-- C, the register (R20). -/
  c : Byte
  /-- D (R20). -/
  d : Byte
  /-- E (R20). -/
  e : Byte
  /-- H (R20). -/
  h : Byte
  /-- L (R20). -/
  l : Byte
  /-- SP (R28). -/
  sp : Word
  /-- PC, the address of the next byte to fetch (R29). -/
  pc : Word
  /-- `halted` (R32). -/
  halted : Bool
  /-- `stopped` (R32). -/
  stopped : Bool
  /-- `ime`, interrupts globally enabled (R32, R34). -/
  ime : Bool
  /-- `ime_pending`, the enable requested by EI one step earlier (R32, R35). -/
  imePending : Bool
  /-- `cycles`, elapsed machine cycles, unbounded (R36, decision D31). -/
  cycles : Nat
  /-- `delta`, the machine cycles of the last Engine step, which CORE reports (R7 item 2, R15, R372). -/
  delta : Nat
  /-- `fault`, empty or one record (R37). -/
  fault : Option FaultRecord
  /-- The 65536 bytes of memory, the device registers among them (R61, R68, R510, R531). -/
  mem : Memory
  /-- `div_acc` of the Timer (R530). -/
  divAcc : Nat
  /-- `tima_acc` of the Timer (R530). -/
  timaAcc : Nat
  /-- The parameters of R9. The model's own field (log entry 2): no step changes it. -/
  cfg : Config
deriving DecidableEq, Repr

/-- How a step of this machine ends. -/
abbrev StepResult := Host.Outcome State Fault Refusal

/-- The state at the start of a run (R40, R600 to R602) with the parameters `cfg` and the launch image
`mem0` (`P_MEM0`, OPEN in the spec). `delta` has no reset value in the spec (log entry 4). -/
def State.launch (cfg : Config) (mem0 : Memory) : State where
  a := 0x01
  f := 0xB0
  b := 0x00
  c := 0x13
  d := 0x00
  e := 0xD8
  h := 0x01
  l := 0x4D
  sp := 0xFFFE
  pc := 0x0100
  halted := false
  stopped := false
  ime := false
  imePending := false
  cycles := 0
  delta := 0
  fault := none
  mem := mem0
  divAcc := 0
  timaAcc := 0
  cfg := cfg

/-- The machine right after reset, with the default parameters and nothing listed in memory (log entry 1). -/
def State.reset : State := State.launch Config.standard []

end Sys2Proof.Machine
end

