-- ==== Sys2Proof/Machine/Ops.lean ====
section
/-! DEFINITION. The named operations over memory, stack, PC and accounting (00_scope.md section 5, R68), the fatal fault (R500), interrupt entry (R517) and the return from it (R332). -/

namespace Sys2Proof.Machine

/-! ### Memory as data -/

/-- The byte at `a`: the listed one, or what an unlisted address reads as. -/
def Memory.get : Memory → Nat → Byte
  | [], _ => Config.unlistedByte
  | c :: rest, a => if c.1 = a then c.2 else Memory.get rest a

/-- The list without the entries at `a`. -/
def Memory.erase (m : Memory) (a : Nat) : Memory := m.filter (fun c => c.1 != a)

/-- A new entry in its place by rising address. -/
def Memory.insert : Memory → Nat → Byte → Memory
  | [], a, v => [(a, v)]
  | c :: rest, a, v => if a < c.1 then (a, v) :: c :: rest else c :: Memory.insert rest a v

/-- One byte replaced. Writing what an unlisted address reads as removes the entry, so that equal
memories are equal lists. -/
def Memory.put (m : Memory) (a : Nat) (v : Byte) : Memory :=
  if v = Config.unlistedByte then m.erase a else (m.erase a).insert a v

/-- The canonical form from address `lo` up: addresses strictly rise and lie in the 16-bit space (R61),
and no entry holds what an unlisted address reads as. -/
def Memory.wfFrom : Nat → Memory → Bool
  | _, [] => true
  | lo, c :: rest =>
    decide (lo ≤ c.1) && decide (c.1 < 65536) && decide (c.2 ≠ Config.unlistedByte) &&
      Memory.wfFrom (c.1 + 1) rest

/-- The canonical form. -/
def Memory.wf (m : Memory) : Bool := Memory.wfFrom 0 m

/-! ### The bus (R60, R68) -/

/-- DIV, the Timer's divider (R531). -/
def addrDIV : Word := 0xFF04
/-- TIMA, the Timer's counter (R531). -/
def addrTIMA : Word := 0xFF05
/-- TMA, the Timer's modulo (R531). -/
def addrTMA : Word := 0xFF06
/-- TAC, the Timer's control (R531). -/
def addrTAC : Word := 0xFF07
/-- IF, the interrupt-flag register (R510). -/
def addrIF : Word := 0xFF0F
/-- IE, the interrupt-enable register (R510). -/
def addrIE : Word := 0xFFFF

/-- `read_byte(a)` (R68): no side effect. -/
def State.readByte (s : State) (a : Word) : Byte := s.mem.get a.toNat

/-- A byte of memory set directly, not through the bus: the Timer's own writes (R530), and the launch image. -/
def State.poke (s : State) (a : Word) (v : Byte) : State := { s with mem := s.mem.put a.toNat v }

/-- `write_byte(a, v)` (R68): dropped below `P_ROM_END`; DIV is set to 0 with `div_acc` (R533); every
other byte is stored. -/
def State.writeByte (s : State) (a : Word) (v : Byte) : State :=
  if a.toNat < s.cfg.romEnd then s
  else if a = addrDIV then { s.poke addrDIV 0x00 with divAcc := 0 }
  else s.poke a v

/-! ### Fetch, stack, accounting (R14, R15) -/

/-- PC after `n` calls of `Fetch8` (R14, R30). The bytes themselves are in the decoded instruction. -/
def State.fetched (s : State) (n : Nat) : State := { s with pc := s.pc + BitVec.ofNat 16 n }

/-- `PC <- target` (R15). -/
def State.jump (s : State) (target : Word) : State := { s with pc := target }

/-- `charge(n)` (R15): the cost of the whole instruction, as the step's `delta`. -/
def State.charge (s : State) (n : Nat) : State := { s with delta := n }

/-- The cost of a conditional transfer with the opcode `op` (R615, R616), taken or not. -/
def State.costIf (s : State) (op : Byte) (taken : Bool) : Nat := s.cfg.cycles.cost op taken

/-- The cost of any other base opcode (R615), where the two figures of its cell are one. -/
def State.cost (s : State) (op : Byte) : Nat := s.costIf op true

/-- The cost of the extended opcode `op2` (R615). -/
def State.costCB (s : State) (op2 : Byte) : Nat := s.cfg.cycles.cbCost op2

/-- `Push16(v)` (R14): high byte at SP-1, then low byte at SP-2. -/
def State.push16 (s : State) (v : Word) : State :=
  let s1 := { s with sp := s.sp - 1 }
  let s2 := s1.writeByte s1.sp (hiByte v)
  let s3 := { s2 with sp := s2.sp - 1 }
  s3.writeByte s3.sp (loByte v)

/-- The value `Pop16()` returns (R14): low byte at SP, high byte at SP+1. -/
def State.top16 (s : State) : Word := joinBytes (s.readByte (s.sp + 1)) (s.readByte s.sp)

/-- The SP `Pop16()` leaves (R14). -/
def State.popped (s : State) : State := { s with sp := s.sp + 2 }

/-! ### The fatal fault (R15, R500) -/

/-- `raise Fault(kind, (opcode, prefixed, pc0))`: the record is set, and nothing else changes. -/
def State.raiseFault (s : State) (kind : FaultKind) (opcode : Byte) (prefixed : Bool) : State :=
  { s with fault := some { kind := kind, opcode := opcode, prefixed := prefixed, pc := s.pc } }

/-! ### Taking an interrupt and returning from it (R517, R332) -/

/-- The address interrupt entry for IF bit `k` goes to (R517). -/
def interruptVector (k : Nat) : Word := BitVec.ofNat 16 (0x0040 + 8 * k)

/-- `Enter(k)` (R517): IF bit `k` is acknowledged, `ime`, `ime_pending` and `halted` are cleared, PC is
pushed, and PC goes to the vector. -/
def State.enterInterrupt (s : State) (k : Nat) : State :=
  let s1 := s.writeByte addrIF (s.readByte addrIF &&& ~~~(1#8 <<< k))
  let s2 := { s1 with ime := false, imePending := false, halted := false }
  (s2.push16 s2.pc).jump (interruptVector k)

/-- `PC <- Pop16()` (R330, R332). -/
def State.returnToCaller (s : State) : State := s.popped.jump s.top16

/-- The return from an interrupt, RETI (R332, R520): PC is popped, and `ime` is set at once. -/
def State.returnFromInterrupt (s : State) : State := { s.returnToCaller with ime := true }

end Sys2Proof.Machine
end

