-- ==== Sys2Proof/Machine/Operands.lean ====
section
/-! DEFINITION. Operand forms: the 8-bit operand code (R105, R16), register pairs (R22, R106, R107), condition codes (R108, R320). -/

namespace Sys2Proof.Machine

/-- The registers an 8-bit operand code names (R105). -/
inductive Reg8 where
  | b | c | d | e | h | l | a
deriving DecidableEq, Repr

/-- The operand code of a register (R105): B 0, C 1, D 2, E 3, H 4, L 5, A 7. -/
def Reg8.code : Reg8 → Byte
  | .b => 0 | .c => 1 | .d => 2 | .e => 3 | .h => 4 | .l => 5 | .a => 7

/-- `reg8(code)` read (R12). -/
def State.reg8 (s : State) : Reg8 → Byte
  | .b => s.b | .c => s.c | .d => s.d | .e => s.e | .h => s.h | .l => s.l | .a => s.a

/-- `reg8(code) <- v` (R12, R21): the other registers are unchanged. -/
def State.setReg8 (s : State) (r : Reg8) (v : Byte) : State :=
  match r with
  | .b => { s with b := v } | .c => { s with c := v } | .d => { s with d := v }
  | .e => { s with e := v } | .h => { s with h := v } | .l => { s with l := v }
  | .a => { s with a := v }

/-- F as every read returns it (R24): bits 3 to 0 are 0. -/
def State.readF (s : State) : Byte := maskF s.f

/-- The pairs of the code `rp` (R106). -/
inductive Pair where
  | bc | de | hl | sp
deriving DecidableEq, Repr

/-- The code of a pair (R106). -/
def Pair.code : Pair → Byte
  | .bc => 0 | .de => 1 | .hl => 2 | .sp => 3

/-- The pairs of the code `rp2` (R107). -/
inductive StackPair where
  | bc | de | hl | af
deriving DecidableEq, Repr

/-- The code of a pair of PUSH and POP (R107). -/
def StackPair.code : StackPair → Byte
  | .bc => 0 | .de => 1 | .hl => 2 | .af => 3

/-- BC = `{B, C}` (R22). -/
def State.bc (s : State) : Word := joinBytes s.b s.c
/-- DE = `{D, E}` (R22). -/
def State.de (s : State) : Word := joinBytes s.d s.e
/-- HL = `{H, L}` (R22). -/
def State.hl (s : State) : Word := joinBytes s.h s.l
/-- AF = `{A, F}` (R22, R24). -/
def State.af (s : State) : Word := joinBytes s.a s.readF

/-- `HL <- v` (R22). -/
def State.setHL (s : State) (v : Word) : State := { s with h := hiByte v, l := loByte v }

/-- `rp(code)` read (R12, R106). -/
def State.pair (s : State) : Pair → Word
  | .bc => s.bc | .de => s.de | .hl => s.hl | .sp => s.sp

/-- `rp(code) <- v` (R12, R22, R106). -/
def State.setPair (s : State) (p : Pair) (v : Word) : State :=
  match p with
  | .bc => { s with b := hiByte v, c := loByte v }
  | .de => { s with d := hiByte v, e := loByte v }
  | .hl => s.setHL v
  | .sp => { s with sp := v }

/-- `rp2(code)` read (R12, R107). -/
def State.stackPair (s : State) : StackPair → Word
  | .bc => s.bc | .de => s.de | .hl => s.hl | .af => s.af

/-- `rp2(code) <- v` (R12, R107); for AF, F keeps bits 7 to 4 of the low byte only (R24, R431). -/
def State.setStackPair (s : State) (p : StackPair) (v : Word) : State :=
  match p with
  | .bc => { s with b := hiByte v, c := loByte v }
  | .de => { s with d := hiByte v, e := loByte v }
  | .hl => s.setHL v
  | .af => { s with a := hiByte v, f := maskF (loByte v) }

/-- The operand of a 3-bit operand code (R105): a register, or the byte at address HL for code 6. -/
inductive Operand8 where
  | reg (r : Reg8)
  | atHL
deriving DecidableEq, Repr

/-- The operand code (R105). -/
def Operand8.code : Operand8 → Byte
  | .reg r => r.code
  | .atHL => 6

/-- The operand a code names (R105), for a field already cut to 3 bits. -/
def Operand8.ofCode : Nat → Operand8
  | 0 => .reg .b | 1 => .reg .c | 2 => .reg .d | 3 => .reg .e
  | 4 => .reg .h | 5 => .reg .l | 6 => .atHL | _ => .reg .a

/-- `src8(code)` (R16). -/
def State.src8 (s : State) : Operand8 → Byte
  | .reg r => s.reg8 r
  | .atHL => s.readByte s.hl

/-- `dst8(code) <- v` (R16). -/
def State.dst8 (s : State) (o : Operand8) (v : Byte) : State :=
  match o with
  | .reg r => s.setReg8 r v
  | .atHL => s.writeByte s.hl v

/-- The conditions of the 2-bit field `cc` (R108). -/
inductive Cond where
  | nz | z | nc | c
deriving DecidableEq, Repr

/-- The code of a condition (R108). -/
def Cond.code : Cond → Byte
  | .nz => 0 | .z => 1 | .nc => 2 | .c => 3

end Sys2Proof.Machine
end

