-- ==== Sys2Proof/Machine/Flags.lean ====
section
/-! DEFINITION. The flags (R23 to R27), the condition evaluator (R320), and every flag computation of the ALU (R200, R205 to R213, R230, R250, R260, R280 to R298). -/

namespace Sys2Proof.Machine

/-- FZ, bit 7 of F (R23). -/
def State.fz (s : State) : Bool := s.f.getLsbD 7
/-- FN, bit 6 of F (R23). -/
def State.fn (s : State) : Bool := s.f.getLsbD 6
/-- FH, bit 5 of F (R23). -/
def State.fh (s : State) : Bool := s.f.getLsbD 5
/-- FC, bit 4 of F (R23). -/
def State.fc (s : State) : Bool := s.f.getLsbD 4

/-- All four flags written (R25): a flag an instruction keeps is passed with its old value. -/
def State.setFlags (s : State) (z n h c : Bool) : State := { s with f := flagByte z n h c }

/-- `cond(cc)` (R320). -/
def State.cond (s : State) : Cond → Bool
  | .nz => !s.fz
  | .z => s.fz
  | .nc => !s.fc
  | .c => s.fc

/-- The result of an 8-bit operation and the four flags it leaves. -/
structure AluOut where
  res : Byte
  z : Bool
  n : Bool
  h : Bool
  c : Bool
deriving DecidableEq, Repr

/-- `add8(a, b, cin)` (R200): exact sum, then narrowed. -/
def add8 (a b : Byte) (cin : Bool) : AluOut :=
  let sum := a.toNat + b.toNat + cin.toNat
  let res := BitVec.ofNat 8 sum
  { res := res, z := decide (res = 0), n := false,
    h := decide (a.toNat % 16 + b.toNat % 16 + cin.toNat > 0xF),
    c := decide (sum > 0xFF) }

/-- `sub8(a, b, cin)` (R200): exact difference, then narrowed. -/
def sub8 (a b : Byte) (cin : Bool) : AluOut :=
  let res := BitVec.ofInt 8 ((a.toNat : Int) - b.toNat - cin.toNat)
  { res := res, z := decide (res = 0), n := true,
    h := decide (a.toNat % 16 < b.toNat % 16 + cin.toNat),
    c := decide (b.toNat + cin.toNat > a.toNat) }

/-- A logic operation (R205 to R207): FN = 0, FC = 0, and FH as given. -/
def logic8 (res : Byte) (h : Bool) : AluOut :=
  { res := res, z := decide (res = 0), n := false, h := h, c := false }

/-- The eight ALU operations of the code `alu` (R110). -/
inductive AluOp where
  | add | adc | sub | sbc | and | xor | or | cp
deriving DecidableEq, Repr

/-- The code of an ALU operation (R110). -/
def AluOp.code : AluOp → Byte
  | .add => 0 | .adc => 1 | .sub => 2 | .sbc => 3 | .and => 4 | .xor => 5 | .or => 6 | .cp => 7

/-- Result and flags of an ALU operation on A = `a`, operand `v` and the old FC (R201 to R208). -/
def AluOp.eval (op : AluOp) (a v : Byte) (fc : Bool) : AluOut :=
  match op with
  | .add => add8 a v false
  | .adc => add8 a v fc
  | .sub => sub8 a v false
  | .sbc => sub8 a v fc
  | .and => logic8 (a &&& v) true
  | .xor => logic8 (a ^^^ v) false
  | .or => logic8 (a ||| v) false
  | .cp => sub8 a v false

/-- Whether an ALU operation writes its result to A (R200, R208): all but CP. -/
def AluOp.writesA : AluOp → Bool
  | .cp => false
  | _ => true

/-- INC of a byte (R210, R211), with the kept FC. -/
def inc8 (old : Byte) (fc : Bool) : AluOut :=
  let res := BitVec.ofNat 8 (old.toNat + 1)
  { res := res, z := decide (res = 0), n := false, h := decide (old.toNat % 16 = 0xF), c := fc }

/-- DEC of a byte (R212, R213), with the kept FC. -/
def dec8 (old : Byte) (fc : Bool) : AluOut :=
  let res := BitVec.ofInt 8 ((old.toNat : Int) - 1)
  { res := res, z := decide (res = 0), n := true, h := decide (old.toNat % 16 = 0x0), c := fc }

/-- DAA on A = `a` (R230). Both conditions are tested on the uncorrected `a`. -/
def daa8 (a : Byte) (fn fh fc : Bool) : AluOut :=
  if fn then
    let corr := (if fh then 0x06 else 0) + (if fc then 0x60 else 0)
    let res := BitVec.ofInt 8 ((a.toNat : Int) - corr)
    { res := res, z := decide (res = 0), n := true, h := false, c := fc }
  else
    let low := fh || decide (a.toNat % 16 > 0x09)
    let high := fc || decide (a.toNat > 0x99)
    let corr := (if low then 0x06 else 0) + (if high then 0x60 else 0)
    let res := BitVec.ofNat 8 (a.toNat + corr)
    { res := res, z := decide (res = 0), n := false, h := false, c := high }

/-- A 16-bit result with the half-carry and carry it leaves. -/
structure Sum16 where
  res : Word
  h : Bool
  c : Bool
deriving DecidableEq, Repr

/-- The 16-bit add of ADD HL,rr (R250): FH from bit 11, FC from bit 15. -/
def add16 (hl v : Word) : Sum16 :=
  { res := BitVec.ofNat 16 (hl.toNat + v.toNat),
    h := decide (hl.toNat % 0x1000 + v.toNat % 0x1000 > 0x0FFF),
    c := decide (hl.toNat + v.toNat > 0xFFFF) }

/-- `addSPe(eb)` (R260): the sum is signed and 16 bits wide, the flags come from the unsigned low-byte add. -/
def addSPe (sp : Word) (eb : Byte) : Sum16 :=
  { res := sp + sext16 eb,
    h := decide (sp.toNat % 0x10 + eb.toNat % 0x10 > 0x0F),
    c := decide (sp.toNat % 0x100 + eb.toNat > 0xFF) }

/-- The rotate and shift operations of the extended table (R111). -/
inductive RotOp where
  | rlc | rrc | rl | rr | sla | sra | swap | srl
deriving DecidableEq, Repr

/-- The code of a rotate or shift (R111): SWAP is 6 and SRL 7 (90_conflicts.md C6). -/
def RotOp.code : RotOp → Byte
  | .rlc => 0 | .rrc => 1 | .rl => 2 | .rr => 3 | .sla => 4 | .sra => 5 | .swap => 6 | .srl => 7

/-- The operation a code names (R111), for a field already cut to 3 bits. -/
def RotOp.ofCode : Nat → RotOp
  | 0 => .rlc | 1 => .rrc | 2 => .rl | 3 => .rr | 4 => .sla | 5 => .sra | 6 => .swap | _ => .srl

/-- The byte a rotate or shift of `v` gives, with the old FC (R280 to R283, R291 to R298). -/
def RotOp.res (op : RotOp) (v : Byte) (fc : Bool) : Byte :=
  match op with
  | .rlc => (v <<< 1) ||| bit0 (v.getLsbD 7)
  | .rrc => (v >>> 1) ||| bit7 (v.getLsbD 0)
  | .rl => (v <<< 1) ||| bit0 fc
  | .rr => (v >>> 1) ||| bit7 fc
  | .sla => v <<< 1
  | .sra => (v >>> 1) ||| (v &&& 0x80#8)
  | .swap => ((v &&& 0x0F#8) <<< 4) ||| (v >>> 4)
  | .srl => v >>> 1

/-- The bit a rotate or shift of `v` leaves in FC (R280 to R283, R291 to R298); 0 for SWAP (R297). -/
def RotOp.carry (op : RotOp) (v : Byte) : Bool :=
  match op with
  | .rlc | .rl | .sla => v.getLsbD 7
  | .rrc | .rr | .sra | .srl => v.getLsbD 0
  | .swap => false

end Sys2Proof.Machine
end

