-- ==== Sys2Proof/Machine/Alu16.lean ====
section
/-! DEFINITION. 16-bit arithmetic (41_alu16.md). -/

namespace Sys2Proof.Machine

/-- ADD HL,rr (R250): FZ kept. -/
def addHL (p : Pair) (s : State) : State :=
  let r := add16 s.hl (s.pair p)
  ((s.fetched 1).setHL r.res).setFlags s.fz false r.h r.c

/-- INC rr (R251): no flag written. -/
def incPair (p : Pair) (s : State) : State := (s.fetched 1).setPair p (s.pair p + 1)

/-- DEC rr (R252): no flag written. -/
def decPair (p : Pair) (s : State) : State := (s.fetched 1).setPair p (s.pair p - 1)

/-- ADD SP,e (R261): FZ and FN cleared (R260). -/
def addSP (e : Byte) (s : State) : State :=
  let r := addSPe s.sp e
  ({ s.fetched 2 with sp := r.res }).setFlags false false r.h r.c

/-- LD HL,SP+e (R262): FZ and FN cleared (R260), SP unchanged. -/
def ldHLSPe (e : Byte) (s : State) : State :=
  let r := addSPe s.sp e
  ((s.fetched 2).setHL r.res).setFlags false false r.h r.c

/-! R250: `ADD HL,rr` -/

/-- 09 `ADD HL,BC` (R250). -/
def execAdd_HL_BC (s : State) : StepResult := .next ((addHL .bc s).charge (s.cost 0x09))
/-- 19 `ADD HL,DE` (R250). -/
def execAdd_HL_DE (s : State) : StepResult := .next ((addHL .de s).charge (s.cost 0x19))
/-- 29 `ADD HL,HL` (R250). -/
def execAdd_HL_HL (s : State) : StepResult := .next ((addHL .hl s).charge (s.cost 0x29))
/-- 39 `ADD HL,SP` (R250). -/
def execAdd_HL_SP (s : State) : StepResult := .next ((addHL .sp s).charge (s.cost 0x39))

/-! R251: `INC rr` -/

/-- 03 `INC BC` (R251). -/
def execInc_BC (s : State) : StepResult := .next ((incPair .bc s).charge (s.cost 0x03))
/-- 13 `INC DE` (R251). -/
def execInc_DE (s : State) : StepResult := .next ((incPair .de s).charge (s.cost 0x13))
/-- 23 `INC HL` (R251). -/
def execInc_HL (s : State) : StepResult := .next ((incPair .hl s).charge (s.cost 0x23))
/-- 33 `INC SP` (R251). -/
def execInc_SP (s : State) : StepResult := .next ((incPair .sp s).charge (s.cost 0x33))

/-! R252: `DEC rr` -/

/-- 0B `DEC BC` (R252). -/
def execDec_BC (s : State) : StepResult := .next ((decPair .bc s).charge (s.cost 0x0B))
/-- 1B `DEC DE` (R252). -/
def execDec_DE (s : State) : StepResult := .next ((decPair .de s).charge (s.cost 0x1B))
/-- 2B `DEC HL` (R252). -/
def execDec_HL (s : State) : StepResult := .next ((decPair .hl s).charge (s.cost 0x2B))
/-- 3B `DEC SP` (R252). -/
def execDec_SP (s : State) : StepResult := .next ((decPair .sp s).charge (s.cost 0x3B))

/-! R261: `ADD SP,e` -/

/-- E8 `ADD SP,e` (R261). -/
def execAdd_SP_e (e : Byte) (s : State) : StepResult := .next ((addSP e s).charge (s.cost 0xE8))

/-! R262: `LD HL,SP+e` -/

/-- F8 `LD HL,SP+e` (R262). -/
def execLd_HL_SPe (e : Byte) (s : State) : StepResult := .next ((ldHLSPe e s).charge (s.cost 0xF8))

end Sys2Proof.Machine
end

