-- ==== Sys2Proof/Machine/Alu8.lean ====
section
/-! DEFINITION. 8-bit arithmetic and logic (40_alu8.md). -/

namespace Sys2Proof.Machine

/-- The four flags of an ALU result (R25). -/
def State.flagsOf (s : State) (o : AluOut) : State := s.setFlags o.z o.n o.h o.c

/-- The result of an ALU operation to A, but for CP (R200, R208), and its flags. -/
def State.aluWrite (s : State) (op : AluOp) (o : AluOut) : State :=
  (if op.writesA then { s with a := o.res } else s).flagsOf o

/-- Forms `r` and `(HL)` of the eight ALU operations (R200 to R208). -/
def alu (op : AluOp) (o : Operand8) (s : State) : State :=
  (s.fetched 1).aluWrite op (op.eval s.a (s.src8 o) s.fc)

/-- Form `n` of the eight ALU operations (R200 to R208). -/
def aluImm (op : AluOp) (n : Byte) (s : State) : State :=
  (s.fetched 2).aluWrite op (op.eval s.a n s.fc)

/-- INC r and INC (HL) (R210, R211). -/
def incOperand (o : Operand8) (s : State) : State :=
  let r := inc8 (s.src8 o) s.fc
  ((s.fetched 1).dst8 o r.res).flagsOf r

/-- DEC r and DEC (HL) (R212, R213). -/
def decOperand (o : Operand8) (s : State) : State :=
  let r := dec8 (s.src8 o) s.fc
  ((s.fetched 1).dst8 o r.res).flagsOf r

/-- DAA (R230). -/
def daa (s : State) : State :=
  let r := daa8 s.a s.fn s.fh s.fc
  ({ s.fetched 1 with a := r.res }).flagsOf r

/-- CPL (R231): FZ and FC kept. -/
def cpl (s : State) : State :=
  ({ s.fetched 1 with a := ~~~s.a }).setFlags s.fz true true s.fc

/-- CCF (R232): FZ kept. -/
def ccf (s : State) : State := (s.fetched 1).setFlags s.fz false false (!s.fc)

/-- SCF (R233): FZ kept. -/
def scf (s : State) : State := (s.fetched 1).setFlags s.fz false false true

/-! R201: `ADD A,r`, `ADD A,(HL)`, `ADD A,n` -/

/-- 80 `ADD A,B` (R201). -/
def execAdd_A_B (s : State) : StepResult := .next ((alu .add (.reg .b) s).charge (s.cost 0x80))
/-- 81 `ADD A,C` (R201). -/
def execAdd_A_C (s : State) : StepResult := .next ((alu .add (.reg .c) s).charge (s.cost 0x81))
/-- 82 `ADD A,D` (R201). -/
def execAdd_A_D (s : State) : StepResult := .next ((alu .add (.reg .d) s).charge (s.cost 0x82))
/-- 83 `ADD A,E` (R201). -/
def execAdd_A_E (s : State) : StepResult := .next ((alu .add (.reg .e) s).charge (s.cost 0x83))
/-- 84 `ADD A,H` (R201). -/
def execAdd_A_H (s : State) : StepResult := .next ((alu .add (.reg .h) s).charge (s.cost 0x84))
/-- 85 `ADD A,L` (R201). -/
def execAdd_A_L (s : State) : StepResult := .next ((alu .add (.reg .l) s).charge (s.cost 0x85))
/-- 86 `ADD A,(HL)` (R201). -/
def execAdd_A_atHL (s : State) : StepResult := .next ((alu .add .atHL s).charge (s.cost 0x86))
/-- 87 `ADD A,A` (R201). -/
def execAdd_A_A (s : State) : StepResult := .next ((alu .add (.reg .a) s).charge (s.cost 0x87))
/-- C6 `ADD A,n` (R201). -/
def execAdd_A_n (n : Byte) (s : State) : StepResult := .next ((aluImm .add n s).charge (s.cost 0xC6))

/-! R202: `ADC A,r`, `ADC A,(HL)`, `ADC A,n` -/

/-- 88 `ADC A,B` (R202). -/
def execAdc_A_B (s : State) : StepResult := .next ((alu .adc (.reg .b) s).charge (s.cost 0x88))
/-- 89 `ADC A,C` (R202). -/
def execAdc_A_C (s : State) : StepResult := .next ((alu .adc (.reg .c) s).charge (s.cost 0x89))
/-- 8A `ADC A,D` (R202). -/
def execAdc_A_D (s : State) : StepResult := .next ((alu .adc (.reg .d) s).charge (s.cost 0x8A))
/-- 8B `ADC A,E` (R202). -/
def execAdc_A_E (s : State) : StepResult := .next ((alu .adc (.reg .e) s).charge (s.cost 0x8B))
/-- 8C `ADC A,H` (R202). -/
def execAdc_A_H (s : State) : StepResult := .next ((alu .adc (.reg .h) s).charge (s.cost 0x8C))
/-- 8D `ADC A,L` (R202). -/
def execAdc_A_L (s : State) : StepResult := .next ((alu .adc (.reg .l) s).charge (s.cost 0x8D))
/-- 8E `ADC A,(HL)` (R202). -/
def execAdc_A_atHL (s : State) : StepResult := .next ((alu .adc .atHL s).charge (s.cost 0x8E))
/-- 8F `ADC A,A` (R202). -/
def execAdc_A_A (s : State) : StepResult := .next ((alu .adc (.reg .a) s).charge (s.cost 0x8F))
/-- CE `ADC A,n` (R202). -/
def execAdc_A_n (n : Byte) (s : State) : StepResult := .next ((aluImm .adc n s).charge (s.cost 0xCE))

/-! R203: `SUB r`, `SUB (HL)`, `SUB n` -/

/-- 90 `SUB B` (R203). -/
def execSub_B (s : State) : StepResult := .next ((alu .sub (.reg .b) s).charge (s.cost 0x90))
/-- 91 `SUB C` (R203). -/
def execSub_C (s : State) : StepResult := .next ((alu .sub (.reg .c) s).charge (s.cost 0x91))
/-- 92 `SUB D` (R203). -/
def execSub_D (s : State) : StepResult := .next ((alu .sub (.reg .d) s).charge (s.cost 0x92))
/-- 93 `SUB E` (R203). -/
def execSub_E (s : State) : StepResult := .next ((alu .sub (.reg .e) s).charge (s.cost 0x93))
/-- 94 `SUB H` (R203). -/
def execSub_H (s : State) : StepResult := .next ((alu .sub (.reg .h) s).charge (s.cost 0x94))
/-- 95 `SUB L` (R203). -/
def execSub_L (s : State) : StepResult := .next ((alu .sub (.reg .l) s).charge (s.cost 0x95))
/-- 96 `SUB (HL)` (R203). -/
def execSub_atHL (s : State) : StepResult := .next ((alu .sub .atHL s).charge (s.cost 0x96))
/-- 97 `SUB A` (R203). -/
def execSub_A (s : State) : StepResult := .next ((alu .sub (.reg .a) s).charge (s.cost 0x97))
/-- D6 `SUB n` (R203). -/
def execSub_n (n : Byte) (s : State) : StepResult := .next ((aluImm .sub n s).charge (s.cost 0xD6))

/-! R204: `SBC A,r`, `SBC A,(HL)`, `SBC A,n` -/

/-- 98 `SBC A,B` (R204). -/
def execSbc_A_B (s : State) : StepResult := .next ((alu .sbc (.reg .b) s).charge (s.cost 0x98))
/-- 99 `SBC A,C` (R204). -/
def execSbc_A_C (s : State) : StepResult := .next ((alu .sbc (.reg .c) s).charge (s.cost 0x99))
/-- 9A `SBC A,D` (R204). -/
def execSbc_A_D (s : State) : StepResult := .next ((alu .sbc (.reg .d) s).charge (s.cost 0x9A))
/-- 9B `SBC A,E` (R204). -/
def execSbc_A_E (s : State) : StepResult := .next ((alu .sbc (.reg .e) s).charge (s.cost 0x9B))
/-- 9C `SBC A,H` (R204). -/
def execSbc_A_H (s : State) : StepResult := .next ((alu .sbc (.reg .h) s).charge (s.cost 0x9C))
/-- 9D `SBC A,L` (R204). -/
def execSbc_A_L (s : State) : StepResult := .next ((alu .sbc (.reg .l) s).charge (s.cost 0x9D))
/-- 9E `SBC A,(HL)` (R204). -/
def execSbc_A_atHL (s : State) : StepResult := .next ((alu .sbc .atHL s).charge (s.cost 0x9E))
/-- 9F `SBC A,A` (R204). -/
def execSbc_A_A (s : State) : StepResult := .next ((alu .sbc (.reg .a) s).charge (s.cost 0x9F))
/-- DE `SBC A,n` (R204). -/
def execSbc_A_n (n : Byte) (s : State) : StepResult := .next ((aluImm .sbc n s).charge (s.cost 0xDE))

/-! R205: `AND r`, `AND (HL)`, `AND n` -/

/-- A0 `AND B` (R205). -/
def execAnd_B (s : State) : StepResult := .next ((alu .and (.reg .b) s).charge (s.cost 0xA0))
/-- A1 `AND C` (R205). -/
def execAnd_C (s : State) : StepResult := .next ((alu .and (.reg .c) s).charge (s.cost 0xA1))
/-- A2 `AND D` (R205). -/
def execAnd_D (s : State) : StepResult := .next ((alu .and (.reg .d) s).charge (s.cost 0xA2))
/-- A3 `AND E` (R205). -/
def execAnd_E (s : State) : StepResult := .next ((alu .and (.reg .e) s).charge (s.cost 0xA3))
/-- A4 `AND H` (R205). -/
def execAnd_H (s : State) : StepResult := .next ((alu .and (.reg .h) s).charge (s.cost 0xA4))
/-- A5 `AND L` (R205). -/
def execAnd_L (s : State) : StepResult := .next ((alu .and (.reg .l) s).charge (s.cost 0xA5))
/-- A6 `AND (HL)` (R205). -/
def execAnd_atHL (s : State) : StepResult := .next ((alu .and .atHL s).charge (s.cost 0xA6))
/-- A7 `AND A` (R205). -/
def execAnd_A (s : State) : StepResult := .next ((alu .and (.reg .a) s).charge (s.cost 0xA7))
/-- E6 `AND n` (R205). -/
def execAnd_n (n : Byte) (s : State) : StepResult := .next ((aluImm .and n s).charge (s.cost 0xE6))

/-! R206: `XOR r`, `XOR (HL)`, `XOR n` -/

/-- A8 `XOR B` (R206). -/
def execXor_B (s : State) : StepResult := .next ((alu .xor (.reg .b) s).charge (s.cost 0xA8))
/-- A9 `XOR C` (R206). -/
def execXor_C (s : State) : StepResult := .next ((alu .xor (.reg .c) s).charge (s.cost 0xA9))
/-- AA `XOR D` (R206). -/
def execXor_D (s : State) : StepResult := .next ((alu .xor (.reg .d) s).charge (s.cost 0xAA))
/-- AB `XOR E` (R206). -/
def execXor_E (s : State) : StepResult := .next ((alu .xor (.reg .e) s).charge (s.cost 0xAB))
/-- AC `XOR H` (R206). -/
def execXor_H (s : State) : StepResult := .next ((alu .xor (.reg .h) s).charge (s.cost 0xAC))
/-- AD `XOR L` (R206). -/
def execXor_L (s : State) : StepResult := .next ((alu .xor (.reg .l) s).charge (s.cost 0xAD))
/-- AE `XOR (HL)` (R206). -/
def execXor_atHL (s : State) : StepResult := .next ((alu .xor .atHL s).charge (s.cost 0xAE))
/-- AF `XOR A` (R206). -/
def execXor_A (s : State) : StepResult := .next ((alu .xor (.reg .a) s).charge (s.cost 0xAF))
/-- EE `XOR n` (R206). -/
def execXor_n (n : Byte) (s : State) : StepResult := .next ((aluImm .xor n s).charge (s.cost 0xEE))

/-! R207: `OR r`, `OR (HL)`, `OR n` -/

/-- B0 `OR B` (R207). -/
def execOr_B (s : State) : StepResult := .next ((alu .or (.reg .b) s).charge (s.cost 0xB0))
/-- B1 `OR C` (R207). -/
def execOr_C (s : State) : StepResult := .next ((alu .or (.reg .c) s).charge (s.cost 0xB1))
/-- B2 `OR D` (R207). -/
def execOr_D (s : State) : StepResult := .next ((alu .or (.reg .d) s).charge (s.cost 0xB2))
/-- B3 `OR E` (R207). -/
def execOr_E (s : State) : StepResult := .next ((alu .or (.reg .e) s).charge (s.cost 0xB3))
/-- B4 `OR H` (R207). -/
def execOr_H (s : State) : StepResult := .next ((alu .or (.reg .h) s).charge (s.cost 0xB4))
/-- B5 `OR L` (R207). -/
def execOr_L (s : State) : StepResult := .next ((alu .or (.reg .l) s).charge (s.cost 0xB5))
/-- B6 `OR (HL)` (R207). -/
def execOr_atHL (s : State) : StepResult := .next ((alu .or .atHL s).charge (s.cost 0xB6))
/-- B7 `OR A` (R207). -/
def execOr_A (s : State) : StepResult := .next ((alu .or (.reg .a) s).charge (s.cost 0xB7))
/-- F6 `OR n` (R207). -/
def execOr_n (n : Byte) (s : State) : StepResult := .next ((aluImm .or n s).charge (s.cost 0xF6))

/-! R208: `CP r`, `CP (HL)`, `CP n` -/

/-- B8 `CP B` (R208). -/
def execCp_B (s : State) : StepResult := .next ((alu .cp (.reg .b) s).charge (s.cost 0xB8))
/-- B9 `CP C` (R208). -/
def execCp_C (s : State) : StepResult := .next ((alu .cp (.reg .c) s).charge (s.cost 0xB9))
/-- BA `CP D` (R208). -/
def execCp_D (s : State) : StepResult := .next ((alu .cp (.reg .d) s).charge (s.cost 0xBA))
/-- BB `CP E` (R208). -/
def execCp_E (s : State) : StepResult := .next ((alu .cp (.reg .e) s).charge (s.cost 0xBB))
/-- BC `CP H` (R208). -/
def execCp_H (s : State) : StepResult := .next ((alu .cp (.reg .h) s).charge (s.cost 0xBC))
/-- BD `CP L` (R208). -/
def execCp_L (s : State) : StepResult := .next ((alu .cp (.reg .l) s).charge (s.cost 0xBD))
/-- BE `CP (HL)` (R208). -/
def execCp_atHL (s : State) : StepResult := .next ((alu .cp .atHL s).charge (s.cost 0xBE))
/-- BF `CP A` (R208). -/
def execCp_A (s : State) : StepResult := .next ((alu .cp (.reg .a) s).charge (s.cost 0xBF))
/-- FE `CP n` (R208). -/
def execCp_n (n : Byte) (s : State) : StepResult := .next ((aluImm .cp n s).charge (s.cost 0xFE))

/-! R210: `INC r` -/

/-- 04 `INC B` (R210). -/
def execInc_B (s : State) : StepResult := .next ((incOperand (.reg .b) s).charge (s.cost 0x04))
/-- 0C `INC C` (R210). -/
def execInc_C (s : State) : StepResult := .next ((incOperand (.reg .c) s).charge (s.cost 0x0C))
/-- 14 `INC D` (R210). -/
def execInc_D (s : State) : StepResult := .next ((incOperand (.reg .d) s).charge (s.cost 0x14))
/-- 1C `INC E` (R210). -/
def execInc_E (s : State) : StepResult := .next ((incOperand (.reg .e) s).charge (s.cost 0x1C))
/-- 24 `INC H` (R210). -/
def execInc_H (s : State) : StepResult := .next ((incOperand (.reg .h) s).charge (s.cost 0x24))
/-- 2C `INC L` (R210). -/
def execInc_L (s : State) : StepResult := .next ((incOperand (.reg .l) s).charge (s.cost 0x2C))
/-- 3C `INC A` (R210). -/
def execInc_A (s : State) : StepResult := .next ((incOperand (.reg .a) s).charge (s.cost 0x3C))

/-! R211: `INC (HL)` -/

/-- 34 `INC (HL)` (R211). -/
def execInc_atHL (s : State) : StepResult := .next ((incOperand .atHL s).charge (s.cost 0x34))

/-! R212: `DEC r` -/

/-- 05 `DEC B` (R212). -/
def execDec_B (s : State) : StepResult := .next ((decOperand (.reg .b) s).charge (s.cost 0x05))
/-- 0D `DEC C` (R212). -/
def execDec_C (s : State) : StepResult := .next ((decOperand (.reg .c) s).charge (s.cost 0x0D))
/-- 15 `DEC D` (R212). -/
def execDec_D (s : State) : StepResult := .next ((decOperand (.reg .d) s).charge (s.cost 0x15))
/-- 1D `DEC E` (R212). -/
def execDec_E (s : State) : StepResult := .next ((decOperand (.reg .e) s).charge (s.cost 0x1D))
/-- 25 `DEC H` (R212). -/
def execDec_H (s : State) : StepResult := .next ((decOperand (.reg .h) s).charge (s.cost 0x25))
/-- 2D `DEC L` (R212). -/
def execDec_L (s : State) : StepResult := .next ((decOperand (.reg .l) s).charge (s.cost 0x2D))
/-- 3D `DEC A` (R212). -/
def execDec_A (s : State) : StepResult := .next ((decOperand (.reg .a) s).charge (s.cost 0x3D))

/-! R213: `DEC (HL)` -/

/-- 35 `DEC (HL)` (R213). -/
def execDec_atHL (s : State) : StepResult := .next ((decOperand .atHL s).charge (s.cost 0x35))

/-! R230: `DAA` -/

/-- 27 `DAA` (R230). -/
def execDaa (s : State) : StepResult := .next ((daa s).charge (s.cost 0x27))

/-! R231: `CPL` -/

/-- 2F `CPL` (R231). -/
def execCpl (s : State) : StepResult := .next ((cpl s).charge (s.cost 0x2F))

/-! R232: `CCF` -/

/-- 3F `CCF` (R232). -/
def execCcf (s : State) : StepResult := .next ((ccf s).charge (s.cost 0x3F))

/-! R233: `SCF` -/

/-- 37 `SCF` (R233). -/
def execScf (s : State) : StepResult := .next ((scf s).charge (s.cost 0x37))

end Sys2Proof.Machine
end

