-- ==== Sys2Proof/Machine/ControlFlow.lean ====
section
/-! DEFINITION. Control transfer (43_control_flow.md). PC during an instruction is the address after it (R29). -/

namespace Sys2Proof.Machine

/-- `(PC + sext_16(e)) mod 2^16` (R322, R326). -/
def State.jumpRelative (s : State) (e : Byte) : State := s.jump (s.pc + sext16 e)

/-- `Push16(PC); PC <- target` (R328, R333). -/
def State.callTo (s : State) (target : Word) : State := (s.push16 s.pc).jump target

/-- JP nn (R323). -/
def jp (nn : Word) (s : State) : State := (s.fetched 3).jump nn

/-- JP cc,nn (R324). -/
def jpIf (cc : Cond) (nn : Word) (s : State) : State :=
  if s.cond cc then (s.fetched 3).jump nn else s.fetched 3

/-- JP HL (R325): no memory is read. -/
def jpHL (s : State) : State := (s.fetched 1).jump s.hl

/-- JR e (R326). -/
def jr (e : Byte) (s : State) : State := (s.fetched 2).jumpRelative e

/-- JR cc,e (R327). -/
def jrIf (cc : Cond) (e : Byte) (s : State) : State :=
  if s.cond cc then (s.fetched 2).jumpRelative e else s.fetched 2

/-- CALL nn (R328). -/
def call (nn : Word) (s : State) : State := (s.fetched 3).callTo nn

/-- CALL cc,nn (R329). -/
def callIf (cc : Cond) (nn : Word) (s : State) : State :=
  if s.cond cc then (s.fetched 3).callTo nn else s.fetched 3

/-- RET (R330). -/
def ret (s : State) : State := (s.fetched 1).returnToCaller

/-- RET cc (R331): not taken, nothing is read and SP is unchanged (R321). -/
def retIf (cc : Cond) (s : State) : State :=
  if s.cond cc then (s.fetched 1).returnToCaller else s.fetched 1

/-- RETI (R332). -/
def reti (s : State) : State := (s.fetched 1).returnFromInterrupt

/-- RST t (R333). -/
def rst (t : Word) (s : State) : State := (s.fetched 1).callTo t

/-! R323: `JP nn` -/

/-- C3 `JP nn` (R323). -/
def execJp_nn (nn : Word) (s : State) : StepResult := .next ((jp nn s).charge (s.cost 0xC3))

/-! R324: `JP cc,nn` -/

/-- C2 `JP NZ,nn` (R324). -/
def execJp_NZ_nn (nn : Word) (s : State) : StepResult := .next ((jpIf .nz nn s).charge (s.costIf 0xC2 (s.cond .nz)))
/-- CA `JP Z,nn` (R324). -/
def execJp_Z_nn (nn : Word) (s : State) : StepResult := .next ((jpIf .z nn s).charge (s.costIf 0xCA (s.cond .z)))
/-- D2 `JP NC,nn` (R324). -/
def execJp_NC_nn (nn : Word) (s : State) : StepResult := .next ((jpIf .nc nn s).charge (s.costIf 0xD2 (s.cond .nc)))
/-- DA `JP C,nn` (R324). -/
def execJp_C_nn (nn : Word) (s : State) : StepResult := .next ((jpIf .c nn s).charge (s.costIf 0xDA (s.cond .c)))

/-! R325: `JP HL` -/

/-- E9 `JP HL` (R325). -/
def execJp_HL (s : State) : StepResult := .next ((jpHL s).charge (s.cost 0xE9))

/-! R326: `JR e` -/

/-- 18 `JR e` (R326). -/
def execJr_e (e : Byte) (s : State) : StepResult := .next ((jr e s).charge (s.cost 0x18))

/-! R327: `JR cc,e` -/

/-- 20 `JR NZ,e` (R327). -/
def execJr_NZ_e (e : Byte) (s : State) : StepResult := .next ((jrIf .nz e s).charge (s.costIf 0x20 (s.cond .nz)))
/-- 28 `JR Z,e` (R327). -/
def execJr_Z_e (e : Byte) (s : State) : StepResult := .next ((jrIf .z e s).charge (s.costIf 0x28 (s.cond .z)))
/-- 30 `JR NC,e` (R327). -/
def execJr_NC_e (e : Byte) (s : State) : StepResult := .next ((jrIf .nc e s).charge (s.costIf 0x30 (s.cond .nc)))
/-- 38 `JR C,e` (R327). -/
def execJr_C_e (e : Byte) (s : State) : StepResult := .next ((jrIf .c e s).charge (s.costIf 0x38 (s.cond .c)))

/-! R328: `CALL nn` -/

/-- CD `CALL nn` (R328). -/
def execCall_nn (nn : Word) (s : State) : StepResult := .next ((call nn s).charge (s.cost 0xCD))

/-! R329: `CALL cc,nn` -/

/-- C4 `CALL NZ,nn` (R329). -/
def execCall_NZ_nn (nn : Word) (s : State) : StepResult := .next ((callIf .nz nn s).charge (s.costIf 0xC4 (s.cond .nz)))
/-- CC `CALL Z,nn` (R329). -/
def execCall_Z_nn (nn : Word) (s : State) : StepResult := .next ((callIf .z nn s).charge (s.costIf 0xCC (s.cond .z)))
/-- D4 `CALL NC,nn` (R329). -/
def execCall_NC_nn (nn : Word) (s : State) : StepResult := .next ((callIf .nc nn s).charge (s.costIf 0xD4 (s.cond .nc)))
/-- DC `CALL C,nn` (R329). -/
def execCall_C_nn (nn : Word) (s : State) : StepResult := .next ((callIf .c nn s).charge (s.costIf 0xDC (s.cond .c)))

/-! R330: `RET` -/

/-- C9 `RET` (R330). -/
def execRet (s : State) : StepResult := .next ((ret s).charge (s.cost 0xC9))

/-! R331: `RET cc` -/

/-- C0 `RET NZ` (R331). -/
def execRet_NZ (s : State) : StepResult := .next ((retIf .nz s).charge (s.costIf 0xC0 (s.cond .nz)))
/-- C8 `RET Z` (R331). -/
def execRet_Z (s : State) : StepResult := .next ((retIf .z s).charge (s.costIf 0xC8 (s.cond .z)))
/-- D0 `RET NC` (R331). -/
def execRet_NC (s : State) : StepResult := .next ((retIf .nc s).charge (s.costIf 0xD0 (s.cond .nc)))
/-- D8 `RET C` (R331). -/
def execRet_C (s : State) : StepResult := .next ((retIf .c s).charge (s.costIf 0xD8 (s.cond .c)))

/-! R332: `RETI` -/

/-- D9 `RETI` (R332). -/
def execReti (s : State) : StepResult := .next ((reti s).charge (s.cost 0xD9))

/-! R333: `RST t` -/

/-- C7 `RST 0x00` (R333). -/
def execRst_00 (s : State) : StepResult := .next ((rst 0x0000 s).charge (s.cost 0xC7))
/-- CF `RST 0x08` (R333). -/
def execRst_08 (s : State) : StepResult := .next ((rst 0x0008 s).charge (s.cost 0xCF))
/-- D7 `RST 0x10` (R333). -/
def execRst_10 (s : State) : StepResult := .next ((rst 0x0010 s).charge (s.cost 0xD7))
/-- DF `RST 0x18` (R333). -/
def execRst_18 (s : State) : StepResult := .next ((rst 0x0018 s).charge (s.cost 0xDF))
/-- E7 `RST 0x20` (R333). -/
def execRst_20 (s : State) : StepResult := .next ((rst 0x0020 s).charge (s.cost 0xE7))
/-- EF `RST 0x28` (R333). -/
def execRst_28 (s : State) : StepResult := .next ((rst 0x0028 s).charge (s.cost 0xEF))
/-- F7 `RST 0x30` (R333). -/
def execRst_30 (s : State) : StepResult := .next ((rst 0x0030 s).charge (s.cost 0xF7))
/-- FF `RST 0x38` (R333). -/
def execRst_38 (s : State) : StepResult := .next ((rst 0x0038 s).charge (s.cost 0xFF))

end Sys2Proof.Machine
end

