-- ==== Sys2Proof/Machine/CpuControl.lean ====
section
/-! DEFINITION. NOP, HALT, STOP, DI and EI (44_engine.md section 4). The EI delay itself is `eiDelay` (Machine/Engine.lean). -/

namespace Sys2Proof.Machine

/-- NOP (R380). -/
def nop (s : State) : State := s.fetched 1

/-- HALT (R381). -/
def halt (s : State) : State := { s.fetched 1 with halted := true }

/-- STOP (R382): `P_STOP_LEN` bytes are fetched; a second one is ignored. -/
def stop (s : State) : State :=
  { s.fetched s.cfg.stopLen.bytes with stopped := true }

/-- DI (R383). -/
def di (s : State) : State := { s.fetched 1 with ime := false }

/-- EI (R384): `ime` is not changed. -/
def ei (s : State) : State := { s.fetched 1 with imePending := true }

/-! R380: `NOP` -/

/-- 00 `NOP` (R380). -/
def execNop (s : State) : StepResult := .next ((nop s).charge (s.cost 0x00))

/-! R381: `HALT` -/

/-- 76 `HALT` (R381). -/
def execHalt (s : State) : StepResult := .next ((halt s).charge (s.cost 0x76))

/-! R382: `STOP` -/

/-- 10 `STOP` (R382). -/
def execStop (_ignored : Option Byte) (s : State) : StepResult := .next ((stop s).charge (s.cost 0x10))

/-! R383: `DI` -/

/-- F3 `DI` (R383). -/
def execDi (s : State) : StepResult := .next ((di s).charge (s.cost 0xF3))

/-! R384: `EI` -/

/-- FB `EI` (R384). -/
def execEi (s : State) : StepResult := .next ((ei s).charge (s.cost 0xFB))

end Sys2Proof.Machine
end

