-- ==== Sys2Proof/Machine/LoadStore.lean ====
section
/-! DEFINITION. Loads, stores and stack transfers (45_load_store.md). No flag is written but by POP AF. -/

namespace Sys2Proof.Machine

/-- LD r,r' (R400). -/
def ldReg (r r' : Reg8) (s : State) : State := (s.fetched 1).setReg8 r (s.reg8 r')

/-- LD r,n (R401). -/
def ldImm (r : Reg8) (n : Byte) (s : State) : State := (s.fetched 2).setReg8 r n

/-- LD r,(HL) (R402): read at the old HL. -/
def ldFromHL (r : Reg8) (s : State) : State := (s.fetched 1).setReg8 r (s.readByte s.hl)

/-- LD (HL),r (R403). -/
def ldToHL (r : Reg8) (s : State) : State := (s.fetched 1).writeByte s.hl (s.reg8 r)

/-- LD (HL),n (R404). -/
def ldImmToHL (n : Byte) (s : State) : State := (s.fetched 2).writeByte s.hl n

/-- LD A,(BC) and LD A,(DE) (R405, R406). -/
def ldAFromPair (p : Pair) (s : State) : State :=
  { s.fetched 1 with a := s.readByte (s.pair p) }

/-- LD (BC),A and LD (DE),A (R407, R408). -/
def ldAToPair (p : Pair) (s : State) : State := (s.fetched 1).writeByte (s.pair p) s.a

/-- LD A,(nn) (R409). -/
def ldAFromAddr (nn : Word) (s : State) : State := { s.fetched 3 with a := s.readByte nn }

/-- LD (nn),A (R410). -/
def ldAToAddr (nn : Word) (s : State) : State := (s.fetched 3).writeByte nn s.a

/-- LD A,(HL+) and LD A,(HL-) (R411, R412): HL changes by `step` after the access. -/
def ldAFromHLThen (step : Word) (s : State) : State :=
  ({ s.fetched 1 with a := s.readByte s.hl }).setHL (s.hl + step)

/-- LD (HL+),A and LD (HL-),A (R413, R414): HL changes by `step` after the access, a dropped one too. -/
def ldAToHLThen (step : Word) (s : State) : State :=
  ((s.fetched 1).writeByte s.hl s.a).setHL (s.hl + step)

/-- LDH (n),A (R416). -/
def ldhTo (n : Byte) (s : State) : State := (s.fetched 2).writeByte (highPage n) s.a

/-- LDH A,(n) (R417). -/
def ldhFrom (n : Byte) (s : State) : State :=
  { s.fetched 2 with a := s.readByte (highPage n) }

/-- LD (C),A (R418). -/
def ldToC (s : State) : State := (s.fetched 1).writeByte (highPage s.c) s.a

/-- LD A,(C) (R419). -/
def ldFromC (s : State) : State := { s.fetched 1 with a := s.readByte (highPage s.c) }

/-- LD rr,nn (R420). -/
def ldPairImm (p : Pair) (nn : Word) (s : State) : State := (s.fetched 3).setPair p nn

/-- LD SP,HL (R421). -/
def ldSPHL (s : State) : State := { s.fetched 1 with sp := s.hl }

/-- LD (nn),SP (R423): low byte at nn, then high byte at nn+1. -/
def ldSPToAddr (nn : Word) (s : State) : State :=
  ((s.fetched 3).writeByte nn (loByte s.sp)).writeByte (nn + 1) (hiByte s.sp)

/-- PUSH rr (R430): the value is read before SP changes. -/
def push (p : StackPair) (s : State) : State := (s.fetched 1).push16 (s.stackPair p)

/-- POP rr (R431). -/
def pop (p : StackPair) (s : State) : State :=
  ((s.fetched 1).popped).setStackPair p s.top16

/-! R400: `LD r,r'` -/

/-- 40 `LD B,B` (R400). -/
def execLd_B_B (s : State) : StepResult := .next ((ldReg .b .b s).charge (s.cost 0x40))
/-- 41 `LD B,C` (R400). -/
def execLd_B_C (s : State) : StepResult := .next ((ldReg .b .c s).charge (s.cost 0x41))
/-- 42 `LD B,D` (R400). -/
def execLd_B_D (s : State) : StepResult := .next ((ldReg .b .d s).charge (s.cost 0x42))
/-- 43 `LD B,E` (R400). -/
def execLd_B_E (s : State) : StepResult := .next ((ldReg .b .e s).charge (s.cost 0x43))
/-- 44 `LD B,H` (R400). -/
def execLd_B_H (s : State) : StepResult := .next ((ldReg .b .h s).charge (s.cost 0x44))
/-- 45 `LD B,L` (R400). -/
def execLd_B_L (s : State) : StepResult := .next ((ldReg .b .l s).charge (s.cost 0x45))
/-- 47 `LD B,A` (R400). -/
def execLd_B_A (s : State) : StepResult := .next ((ldReg .b .a s).charge (s.cost 0x47))
/-- 48 `LD C,B` (R400). -/
def execLd_C_B (s : State) : StepResult := .next ((ldReg .c .b s).charge (s.cost 0x48))
/-- 49 `LD C,C` (R400). -/
def execLd_C_C (s : State) : StepResult := .next ((ldReg .c .c s).charge (s.cost 0x49))
/-- 4A `LD C,D` (R400). -/
def execLd_C_D (s : State) : StepResult := .next ((ldReg .c .d s).charge (s.cost 0x4A))
/-- 4B `LD C,E` (R400). -/
def execLd_C_E (s : State) : StepResult := .next ((ldReg .c .e s).charge (s.cost 0x4B))
/-- 4C `LD C,H` (R400). -/
def execLd_C_H (s : State) : StepResult := .next ((ldReg .c .h s).charge (s.cost 0x4C))
/-- 4D `LD C,L` (R400). -/
def execLd_C_L (s : State) : StepResult := .next ((ldReg .c .l s).charge (s.cost 0x4D))
/-- 4F `LD C,A` (R400). -/
def execLd_C_A (s : State) : StepResult := .next ((ldReg .c .a s).charge (s.cost 0x4F))
/-- 50 `LD D,B` (R400). -/
def execLd_D_B (s : State) : StepResult := .next ((ldReg .d .b s).charge (s.cost 0x50))
/-- 51 `LD D,C` (R400). -/
def execLd_D_C (s : State) : StepResult := .next ((ldReg .d .c s).charge (s.cost 0x51))
/-- 52 `LD D,D` (R400). -/
def execLd_D_D (s : State) : StepResult := .next ((ldReg .d .d s).charge (s.cost 0x52))
/-- 53 `LD D,E` (R400). -/
def execLd_D_E (s : State) : StepResult := .next ((ldReg .d .e s).charge (s.cost 0x53))
/-- 54 `LD D,H` (R400). -/
def execLd_D_H (s : State) : StepResult := .next ((ldReg .d .h s).charge (s.cost 0x54))
/-- 55 `LD D,L` (R400). -/
def execLd_D_L (s : State) : StepResult := .next ((ldReg .d .l s).charge (s.cost 0x55))
/-- 57 `LD D,A` (R400). -/
def execLd_D_A (s : State) : StepResult := .next ((ldReg .d .a s).charge (s.cost 0x57))
/-- 58 `LD E,B` (R400). -/
def execLd_E_B (s : State) : StepResult := .next ((ldReg .e .b s).charge (s.cost 0x58))
/-- 59 `LD E,C` (R400). -/
def execLd_E_C (s : State) : StepResult := .next ((ldReg .e .c s).charge (s.cost 0x59))
/-- 5A `LD E,D` (R400). -/
def execLd_E_D (s : State) : StepResult := .next ((ldReg .e .d s).charge (s.cost 0x5A))
/-- 5B `LD E,E` (R400). -/
def execLd_E_E (s : State) : StepResult := .next ((ldReg .e .e s).charge (s.cost 0x5B))
/-- 5C `LD E,H` (R400). -/
def execLd_E_H (s : State) : StepResult := .next ((ldReg .e .h s).charge (s.cost 0x5C))
/-- 5D `LD E,L` (R400). -/
def execLd_E_L (s : State) : StepResult := .next ((ldReg .e .l s).charge (s.cost 0x5D))
/-- 5F `LD E,A` (R400). -/
def execLd_E_A (s : State) : StepResult := .next ((ldReg .e .a s).charge (s.cost 0x5F))
/-- 60 `LD H,B` (R400). -/
def execLd_H_B (s : State) : StepResult := .next ((ldReg .h .b s).charge (s.cost 0x60))
/-- 61 `LD H,C` (R400). -/
def execLd_H_C (s : State) : StepResult := .next ((ldReg .h .c s).charge (s.cost 0x61))
/-- 62 `LD H,D` (R400). -/
def execLd_H_D (s : State) : StepResult := .next ((ldReg .h .d s).charge (s.cost 0x62))
/-- 63 `LD H,E` (R400). -/
def execLd_H_E (s : State) : StepResult := .next ((ldReg .h .e s).charge (s.cost 0x63))
/-- 64 `LD H,H` (R400). -/
def execLd_H_H (s : State) : StepResult := .next ((ldReg .h .h s).charge (s.cost 0x64))
/-- 65 `LD H,L` (R400). -/
def execLd_H_L (s : State) : StepResult := .next ((ldReg .h .l s).charge (s.cost 0x65))
/-- 67 `LD H,A` (R400). -/
def execLd_H_A (s : State) : StepResult := .next ((ldReg .h .a s).charge (s.cost 0x67))
/-- 68 `LD L,B` (R400). -/
def execLd_L_B (s : State) : StepResult := .next ((ldReg .l .b s).charge (s.cost 0x68))
/-- 69 `LD L,C` (R400). -/
def execLd_L_C (s : State) : StepResult := .next ((ldReg .l .c s).charge (s.cost 0x69))
/-- 6A `LD L,D` (R400). -/
def execLd_L_D (s : State) : StepResult := .next ((ldReg .l .d s).charge (s.cost 0x6A))
/-- 6B `LD L,E` (R400). -/
def execLd_L_E (s : State) : StepResult := .next ((ldReg .l .e s).charge (s.cost 0x6B))
/-- 6C `LD L,H` (R400). -/
def execLd_L_H (s : State) : StepResult := .next ((ldReg .l .h s).charge (s.cost 0x6C))
/-- 6D `LD L,L` (R400). -/
def execLd_L_L (s : State) : StepResult := .next ((ldReg .l .l s).charge (s.cost 0x6D))
/-- 6F `LD L,A` (R400). -/
def execLd_L_A (s : State) : StepResult := .next ((ldReg .l .a s).charge (s.cost 0x6F))
/-- 78 `LD A,B` (R400). -/
def execLd_A_B (s : State) : StepResult := .next ((ldReg .a .b s).charge (s.cost 0x78))
/-- 79 `LD A,C` (R400). -/
def execLd_A_C (s : State) : StepResult := .next ((ldReg .a .c s).charge (s.cost 0x79))
/-- 7A `LD A,D` (R400). -/
def execLd_A_D (s : State) : StepResult := .next ((ldReg .a .d s).charge (s.cost 0x7A))
/-- 7B `LD A,E` (R400). -/
def execLd_A_E (s : State) : StepResult := .next ((ldReg .a .e s).charge (s.cost 0x7B))
/-- 7C `LD A,H` (R400). -/
def execLd_A_H (s : State) : StepResult := .next ((ldReg .a .h s).charge (s.cost 0x7C))
/-- 7D `LD A,L` (R400). -/
def execLd_A_L (s : State) : StepResult := .next ((ldReg .a .l s).charge (s.cost 0x7D))
/-- 7F `LD A,A` (R400). -/
def execLd_A_A (s : State) : StepResult := .next ((ldReg .a .a s).charge (s.cost 0x7F))

/-! R401: `LD r,n` -/

/-- 06 `LD B,n` (R401). -/
def execLd_B_n (n : Byte) (s : State) : StepResult := .next ((ldImm .b n s).charge (s.cost 0x06))
/-- 0E `LD C,n` (R401). -/
def execLd_C_n (n : Byte) (s : State) : StepResult := .next ((ldImm .c n s).charge (s.cost 0x0E))
/-- 16 `LD D,n` (R401). -/
def execLd_D_n (n : Byte) (s : State) : StepResult := .next ((ldImm .d n s).charge (s.cost 0x16))
/-- 1E `LD E,n` (R401). -/
def execLd_E_n (n : Byte) (s : State) : StepResult := .next ((ldImm .e n s).charge (s.cost 0x1E))
/-- 26 `LD H,n` (R401). -/
def execLd_H_n (n : Byte) (s : State) : StepResult := .next ((ldImm .h n s).charge (s.cost 0x26))
/-- 2E `LD L,n` (R401). -/
def execLd_L_n (n : Byte) (s : State) : StepResult := .next ((ldImm .l n s).charge (s.cost 0x2E))
/-- 3E `LD A,n` (R401). -/
def execLd_A_n (n : Byte) (s : State) : StepResult := .next ((ldImm .a n s).charge (s.cost 0x3E))

/-! R402: `LD r,(HL)` -/

/-- 46 `LD B,(HL)` (R402). -/
def execLd_B_atHL (s : State) : StepResult := .next ((ldFromHL .b s).charge (s.cost 0x46))
/-- 4E `LD C,(HL)` (R402). -/
def execLd_C_atHL (s : State) : StepResult := .next ((ldFromHL .c s).charge (s.cost 0x4E))
/-- 56 `LD D,(HL)` (R402). -/
def execLd_D_atHL (s : State) : StepResult := .next ((ldFromHL .d s).charge (s.cost 0x56))
/-- 5E `LD E,(HL)` (R402). -/
def execLd_E_atHL (s : State) : StepResult := .next ((ldFromHL .e s).charge (s.cost 0x5E))
/-- 66 `LD H,(HL)` (R402). -/
def execLd_H_atHL (s : State) : StepResult := .next ((ldFromHL .h s).charge (s.cost 0x66))
/-- 6E `LD L,(HL)` (R402). -/
def execLd_L_atHL (s : State) : StepResult := .next ((ldFromHL .l s).charge (s.cost 0x6E))
/-- 7E `LD A,(HL)` (R402). -/
def execLd_A_atHL (s : State) : StepResult := .next ((ldFromHL .a s).charge (s.cost 0x7E))

/-! R403: `LD (HL),r` -/

/-- 70 `LD (HL),B` (R403). -/
def execLd_atHL_B (s : State) : StepResult := .next ((ldToHL .b s).charge (s.cost 0x70))
/-- 71 `LD (HL),C` (R403). -/
def execLd_atHL_C (s : State) : StepResult := .next ((ldToHL .c s).charge (s.cost 0x71))
/-- 72 `LD (HL),D` (R403). -/
def execLd_atHL_D (s : State) : StepResult := .next ((ldToHL .d s).charge (s.cost 0x72))
/-- 73 `LD (HL),E` (R403). -/
def execLd_atHL_E (s : State) : StepResult := .next ((ldToHL .e s).charge (s.cost 0x73))
/-- 74 `LD (HL),H` (R403). -/
def execLd_atHL_H (s : State) : StepResult := .next ((ldToHL .h s).charge (s.cost 0x74))
/-- 75 `LD (HL),L` (R403). -/
def execLd_atHL_L (s : State) : StepResult := .next ((ldToHL .l s).charge (s.cost 0x75))
/-- 77 `LD (HL),A` (R403). -/
def execLd_atHL_A (s : State) : StepResult := .next ((ldToHL .a s).charge (s.cost 0x77))

/-! R404: `LD (HL),n` -/

/-- 36 `LD (HL),n` (R404). -/
def execLd_atHL_n (n : Byte) (s : State) : StepResult := .next ((ldImmToHL n s).charge (s.cost 0x36))

/-! R405: `LD A,(BC)` -/

/-- 0A `LD A,(BC)` (R405). -/
def execLd_A_atBC (s : State) : StepResult := .next ((ldAFromPair .bc s).charge (s.cost 0x0A))

/-! R406: `LD A,(DE)` -/

/-- 1A `LD A,(DE)` (R406). -/
def execLd_A_atDE (s : State) : StepResult := .next ((ldAFromPair .de s).charge (s.cost 0x1A))

/-! R407: `LD (BC),A` -/

/-- 02 `LD (BC),A` (R407). -/
def execLd_atBC_A (s : State) : StepResult := .next ((ldAToPair .bc s).charge (s.cost 0x02))

/-! R408: `LD (DE),A` -/

/-- 12 `LD (DE),A` (R408). -/
def execLd_atDE_A (s : State) : StepResult := .next ((ldAToPair .de s).charge (s.cost 0x12))

/-! R409: `LD A,(nn)` -/

/-- FA `LD A,(nn)` (R409). -/
def execLd_A_atnn (nn : Word) (s : State) : StepResult := .next ((ldAFromAddr nn s).charge (s.cost 0xFA))

/-! R410: `LD (nn),A` -/

/-- EA `LD (nn),A` (R410). -/
def execLd_atnn_A (nn : Word) (s : State) : StepResult := .next ((ldAToAddr nn s).charge (s.cost 0xEA))

/-! R411: `LD A,(HL+)` -/

/-- 2A `LD A,(HL+)` (R411). -/
def execLd_A_atHLinc (s : State) : StepResult := .next ((ldAFromHLThen 1 s).charge (s.cost 0x2A))

/-! R412: `LD A,(HL-)` -/

/-- 3A `LD A,(HL-)` (R412). -/
def execLd_A_atHLdec (s : State) : StepResult := .next ((ldAFromHLThen (-1) s).charge (s.cost 0x3A))

/-! R413: `LD (HL+),A` -/

/-- 22 `LD (HL+),A` (R413). -/
def execLd_atHLinc_A (s : State) : StepResult := .next ((ldAToHLThen 1 s).charge (s.cost 0x22))

/-! R414: `LD (HL-),A` -/

/-- 32 `LD (HL-),A` (R414). -/
def execLd_atHLdec_A (s : State) : StepResult := .next ((ldAToHLThen (-1) s).charge (s.cost 0x32))

/-! R416: `LDH (n),A` -/

/-- E0 `LDH (n),A` (R416). -/
def execLdh_atn_A (n : Byte) (s : State) : StepResult := .next ((ldhTo n s).charge (s.cost 0xE0))

/-! R417: `LDH A,(n)` -/

/-- F0 `LDH A,(n)` (R417). -/
def execLdh_A_atn (n : Byte) (s : State) : StepResult := .next ((ldhFrom n s).charge (s.cost 0xF0))

/-! R418: `LD (C),A` -/

/-- E2 `LD (C),A` (R418). -/
def execLd_atC_A (s : State) : StepResult := .next ((ldToC s).charge (s.cost 0xE2))

/-! R419: `LD A,(C)` -/

/-- F2 `LD A,(C)` (R419). -/
def execLd_A_atC (s : State) : StepResult := .next ((ldFromC s).charge (s.cost 0xF2))

/-! R420: `LD rr,nn` -/

/-- 01 `LD BC,nn` (R420). -/
def execLd_BC_nn (nn : Word) (s : State) : StepResult := .next ((ldPairImm .bc nn s).charge (s.cost 0x01))
/-- 11 `LD DE,nn` (R420). -/
def execLd_DE_nn (nn : Word) (s : State) : StepResult := .next ((ldPairImm .de nn s).charge (s.cost 0x11))
/-- 21 `LD HL,nn` (R420). -/
def execLd_HL_nn (nn : Word) (s : State) : StepResult := .next ((ldPairImm .hl nn s).charge (s.cost 0x21))
/-- 31 `LD SP,nn` (R420). -/
def execLd_SP_nn (nn : Word) (s : State) : StepResult := .next ((ldPairImm .sp nn s).charge (s.cost 0x31))

/-! R421: `LD SP,HL` -/

/-- F9 `LD SP,HL` (R421). -/
def execLd_SP_HL (s : State) : StepResult := .next ((ldSPHL s).charge (s.cost 0xF9))

/-! R423: `LD (nn),SP` -/

/-- 08 `LD (nn),SP` (R423). -/
def execLd_atnn_SP (nn : Word) (s : State) : StepResult := .next ((ldSPToAddr nn s).charge (s.cost 0x08))

/-! R430: `PUSH rr` -/

/-- C5 `PUSH BC` (R430). -/
def execPush_BC (s : State) : StepResult := .next ((push .bc s).charge (s.cost 0xC5))
/-- D5 `PUSH DE` (R430). -/
def execPush_DE (s : State) : StepResult := .next ((push .de s).charge (s.cost 0xD5))
/-- E5 `PUSH HL` (R430). -/
def execPush_HL (s : State) : StepResult := .next ((push .hl s).charge (s.cost 0xE5))
/-- F5 `PUSH AF` (R430). -/
def execPush_AF (s : State) : StepResult := .next ((push .af s).charge (s.cost 0xF5))

/-! R431: `POP rr` -/

/-- C1 `POP BC` (R431). -/
def execPop_BC (s : State) : StepResult := .next ((pop .bc s).charge (s.cost 0xC1))
/-- D1 `POP DE` (R431). -/
def execPop_DE (s : State) : StepResult := .next ((pop .de s).charge (s.cost 0xD1))
/-- E1 `POP HL` (R431). -/
def execPop_HL (s : State) : StepResult := .next ((pop .hl s).charge (s.cost 0xE1))
/-- F1 `POP AF` (R431). -/
def execPop_AF (s : State) : StepResult := .next ((pop .af s).charge (s.cost 0xF1))

end Sys2Proof.Machine
end

