-- ==== Sys2Proof/Machine/RotateShiftBit.lean ====
section
/-! DEFINITION. Rotates, shifts and bit operations (42_rotate_shift_bit.md). -/

namespace Sys2Proof.Machine

/-- RLCA, RRCA, RLA, RRA (R280 to R283): FZ is cleared whatever the result (decision D13). -/
def rotateA (op : RotOp) (s : State) : State :=
  ({ s.fetched 1 with a := op.res s.a s.fc }).setFlags false false false (op.carry s.a)

/-- The extended rotates, shifts and SWAP (R290 to R298): one read, one write, FZ from the result. -/
def rotate (op : RotOp) (o : Operand8) (s : State) : State :=
  let v := s.src8 o
  let res := op.res v s.fc
  ((s.fetched 2).dst8 o res).setFlags (decide (res = 0)) false false (op.carry v)

/-- BIT b,s (R300): nothing is written to the operand, FC kept. -/
def bitTest (b : Nat) (o : Operand8) (s : State) : State :=
  (s.fetched 2).setFlags (!(s.src8 o).getLsbD b) false true s.fc

/-- RES b,s (R301): no flag written. -/
def bitReset (b : Nat) (o : Operand8) (s : State) : State :=
  (s.fetched 2).dst8 o (s.src8 o &&& ~~~(1#8 <<< b))

/-- SET b,s (R302): no flag written. -/
def bitSet (b : Nat) (o : Operand8) (s : State) : State :=
  (s.fetched 2).dst8 o (s.src8 o ||| (1#8 <<< b))

/-- The extended instruction of the byte `op2`, by its fields (R103, R111): what runs after the prefix byte. -/
def runExtended (op2 : Byte) (s : State) : State :=
  let y := op2.toNat / 8 % 8
  let o := Operand8.ofCode (op2.toNat % 8)
  match op2.toNat / 64 with
  | 0 => rotate (RotOp.ofCode y) o s
  | 1 => bitTest y o s
  | 2 => bitReset y o s
  | _ => bitSet y o s

/-! R280: `RLCA` -/

/-- 07 `RLCA` (R280). -/
def execRlca (s : State) : StepResult := .next ((rotateA .rlc s).charge (s.cost 0x07))

/-! R281: `RRCA` -/

/-- 0F `RRCA` (R281). -/
def execRrca (s : State) : StepResult := .next ((rotateA .rrc s).charge (s.cost 0x0F))

/-! R282: `RLA` -/

/-- 17 `RLA` (R282). -/
def execRla (s : State) : StepResult := .next ((rotateA .rl s).charge (s.cost 0x17))

/-! R283: `RRA` -/

/-- 1F `RRA` (R283). -/
def execRra (s : State) : StepResult := .next ((rotateA .rr s).charge (s.cost 0x1F))

/-! R291: `RLC r`, `RLC (HL)` -/

/-- CB 00 `RLC B` (R291). -/
def execRlc_B (s : State) : StepResult := .next ((rotate .rlc (.reg .b) s).charge (s.costCB 0x00))
/-- CB 01 `RLC C` (R291). -/
def execRlc_C (s : State) : StepResult := .next ((rotate .rlc (.reg .c) s).charge (s.costCB 0x01))
/-- CB 02 `RLC D` (R291). -/
def execRlc_D (s : State) : StepResult := .next ((rotate .rlc (.reg .d) s).charge (s.costCB 0x02))
/-- CB 03 `RLC E` (R291). -/
def execRlc_E (s : State) : StepResult := .next ((rotate .rlc (.reg .e) s).charge (s.costCB 0x03))
/-- CB 04 `RLC H` (R291). -/
def execRlc_H (s : State) : StepResult := .next ((rotate .rlc (.reg .h) s).charge (s.costCB 0x04))
/-- CB 05 `RLC L` (R291). -/
def execRlc_L (s : State) : StepResult := .next ((rotate .rlc (.reg .l) s).charge (s.costCB 0x05))
/-- CB 06 `RLC (HL)` (R291). -/
def execRlc_atHL (s : State) : StepResult := .next ((rotate .rlc .atHL s).charge (s.costCB 0x06))
/-- CB 07 `RLC A` (R291). -/
def execRlc_A (s : State) : StepResult := .next ((rotate .rlc (.reg .a) s).charge (s.costCB 0x07))

/-! R292: `RRC r`, `RRC (HL)` -/

/-- CB 08 `RRC B` (R292). -/
def execRrc_B (s : State) : StepResult := .next ((rotate .rrc (.reg .b) s).charge (s.costCB 0x08))
/-- CB 09 `RRC C` (R292). -/
def execRrc_C (s : State) : StepResult := .next ((rotate .rrc (.reg .c) s).charge (s.costCB 0x09))
/-- CB 0A `RRC D` (R292). -/
def execRrc_D (s : State) : StepResult := .next ((rotate .rrc (.reg .d) s).charge (s.costCB 0x0A))
/-- CB 0B `RRC E` (R292). -/
def execRrc_E (s : State) : StepResult := .next ((rotate .rrc (.reg .e) s).charge (s.costCB 0x0B))
/-- CB 0C `RRC H` (R292). -/
def execRrc_H (s : State) : StepResult := .next ((rotate .rrc (.reg .h) s).charge (s.costCB 0x0C))
/-- CB 0D `RRC L` (R292). -/
def execRrc_L (s : State) : StepResult := .next ((rotate .rrc (.reg .l) s).charge (s.costCB 0x0D))
/-- CB 0E `RRC (HL)` (R292). -/
def execRrc_atHL (s : State) : StepResult := .next ((rotate .rrc .atHL s).charge (s.costCB 0x0E))
/-- CB 0F `RRC A` (R292). -/
def execRrc_A (s : State) : StepResult := .next ((rotate .rrc (.reg .a) s).charge (s.costCB 0x0F))

/-! R293: `RL r`, `RL (HL)` -/

/-- CB 10 `RL B` (R293). -/
def execRl_B (s : State) : StepResult := .next ((rotate .rl (.reg .b) s).charge (s.costCB 0x10))
/-- CB 11 `RL C` (R293). -/
def execRl_C (s : State) : StepResult := .next ((rotate .rl (.reg .c) s).charge (s.costCB 0x11))
/-- CB 12 `RL D` (R293). -/
def execRl_D (s : State) : StepResult := .next ((rotate .rl (.reg .d) s).charge (s.costCB 0x12))
/-- CB 13 `RL E` (R293). -/
def execRl_E (s : State) : StepResult := .next ((rotate .rl (.reg .e) s).charge (s.costCB 0x13))
/-- CB 14 `RL H` (R293). -/
def execRl_H (s : State) : StepResult := .next ((rotate .rl (.reg .h) s).charge (s.costCB 0x14))
/-- CB 15 `RL L` (R293). -/
def execRl_L (s : State) : StepResult := .next ((rotate .rl (.reg .l) s).charge (s.costCB 0x15))
/-- CB 16 `RL (HL)` (R293). -/
def execRl_atHL (s : State) : StepResult := .next ((rotate .rl .atHL s).charge (s.costCB 0x16))
/-- CB 17 `RL A` (R293). -/
def execRl_A (s : State) : StepResult := .next ((rotate .rl (.reg .a) s).charge (s.costCB 0x17))

/-! R294: `RR r`, `RR (HL)` -/

/-- CB 18 `RR B` (R294). -/
def execRr_B (s : State) : StepResult := .next ((rotate .rr (.reg .b) s).charge (s.costCB 0x18))
/-- CB 19 `RR C` (R294). -/
def execRr_C (s : State) : StepResult := .next ((rotate .rr (.reg .c) s).charge (s.costCB 0x19))
/-- CB 1A `RR D` (R294). -/
def execRr_D (s : State) : StepResult := .next ((rotate .rr (.reg .d) s).charge (s.costCB 0x1A))
/-- CB 1B `RR E` (R294). -/
def execRr_E (s : State) : StepResult := .next ((rotate .rr (.reg .e) s).charge (s.costCB 0x1B))
/-- CB 1C `RR H` (R294). -/
def execRr_H (s : State) : StepResult := .next ((rotate .rr (.reg .h) s).charge (s.costCB 0x1C))
/-- CB 1D `RR L` (R294). -/
def execRr_L (s : State) : StepResult := .next ((rotate .rr (.reg .l) s).charge (s.costCB 0x1D))
/-- CB 1E `RR (HL)` (R294). -/
def execRr_atHL (s : State) : StepResult := .next ((rotate .rr .atHL s).charge (s.costCB 0x1E))
/-- CB 1F `RR A` (R294). -/
def execRr_A (s : State) : StepResult := .next ((rotate .rr (.reg .a) s).charge (s.costCB 0x1F))

/-! R295: `SLA r`, `SLA (HL)` -/

/-- CB 20 `SLA B` (R295). -/
def execSla_B (s : State) : StepResult := .next ((rotate .sla (.reg .b) s).charge (s.costCB 0x20))
/-- CB 21 `SLA C` (R295). -/
def execSla_C (s : State) : StepResult := .next ((rotate .sla (.reg .c) s).charge (s.costCB 0x21))
/-- CB 22 `SLA D` (R295). -/
def execSla_D (s : State) : StepResult := .next ((rotate .sla (.reg .d) s).charge (s.costCB 0x22))
/-- CB 23 `SLA E` (R295). -/
def execSla_E (s : State) : StepResult := .next ((rotate .sla (.reg .e) s).charge (s.costCB 0x23))
/-- CB 24 `SLA H` (R295). -/
def execSla_H (s : State) : StepResult := .next ((rotate .sla (.reg .h) s).charge (s.costCB 0x24))
/-- CB 25 `SLA L` (R295). -/
def execSla_L (s : State) : StepResult := .next ((rotate .sla (.reg .l) s).charge (s.costCB 0x25))
/-- CB 26 `SLA (HL)` (R295). -/
def execSla_atHL (s : State) : StepResult := .next ((rotate .sla .atHL s).charge (s.costCB 0x26))
/-- CB 27 `SLA A` (R295). -/
def execSla_A (s : State) : StepResult := .next ((rotate .sla (.reg .a) s).charge (s.costCB 0x27))

/-! R296: `SRA r`, `SRA (HL)` -/

/-- CB 28 `SRA B` (R296). -/
def execSra_B (s : State) : StepResult := .next ((rotate .sra (.reg .b) s).charge (s.costCB 0x28))
/-- CB 29 `SRA C` (R296). -/
def execSra_C (s : State) : StepResult := .next ((rotate .sra (.reg .c) s).charge (s.costCB 0x29))
/-- CB 2A `SRA D` (R296). -/
def execSra_D (s : State) : StepResult := .next ((rotate .sra (.reg .d) s).charge (s.costCB 0x2A))
/-- CB 2B `SRA E` (R296). -/
def execSra_E (s : State) : StepResult := .next ((rotate .sra (.reg .e) s).charge (s.costCB 0x2B))
/-- CB 2C `SRA H` (R296). -/
def execSra_H (s : State) : StepResult := .next ((rotate .sra (.reg .h) s).charge (s.costCB 0x2C))
/-- CB 2D `SRA L` (R296). -/
def execSra_L (s : State) : StepResult := .next ((rotate .sra (.reg .l) s).charge (s.costCB 0x2D))
/-- CB 2E `SRA (HL)` (R296). -/
def execSra_atHL (s : State) : StepResult := .next ((rotate .sra .atHL s).charge (s.costCB 0x2E))
/-- CB 2F `SRA A` (R296). -/
def execSra_A (s : State) : StepResult := .next ((rotate .sra (.reg .a) s).charge (s.costCB 0x2F))

/-! R297: `SWAP r`, `SWAP (HL)` -/

/-- CB 30 `SWAP B` (R297). -/
def execSwap_B (s : State) : StepResult := .next ((rotate .swap (.reg .b) s).charge (s.costCB 0x30))
/-- CB 31 `SWAP C` (R297). -/
def execSwap_C (s : State) : StepResult := .next ((rotate .swap (.reg .c) s).charge (s.costCB 0x31))
/-- CB 32 `SWAP D` (R297). -/
def execSwap_D (s : State) : StepResult := .next ((rotate .swap (.reg .d) s).charge (s.costCB 0x32))
/-- CB 33 `SWAP E` (R297). -/
def execSwap_E (s : State) : StepResult := .next ((rotate .swap (.reg .e) s).charge (s.costCB 0x33))
/-- CB 34 `SWAP H` (R297). -/
def execSwap_H (s : State) : StepResult := .next ((rotate .swap (.reg .h) s).charge (s.costCB 0x34))
/-- CB 35 `SWAP L` (R297). -/
def execSwap_L (s : State) : StepResult := .next ((rotate .swap (.reg .l) s).charge (s.costCB 0x35))
/-- CB 36 `SWAP (HL)` (R297). -/
def execSwap_atHL (s : State) : StepResult := .next ((rotate .swap .atHL s).charge (s.costCB 0x36))
/-- CB 37 `SWAP A` (R297). -/
def execSwap_A (s : State) : StepResult := .next ((rotate .swap (.reg .a) s).charge (s.costCB 0x37))

/-! R298: `SRL r`, `SRL (HL)` -/

/-- CB 38 `SRL B` (R298). -/
def execSrl_B (s : State) : StepResult := .next ((rotate .srl (.reg .b) s).charge (s.costCB 0x38))
/-- CB 39 `SRL C` (R298). -/
def execSrl_C (s : State) : StepResult := .next ((rotate .srl (.reg .c) s).charge (s.costCB 0x39))
/-- CB 3A `SRL D` (R298). -/
def execSrl_D (s : State) : StepResult := .next ((rotate .srl (.reg .d) s).charge (s.costCB 0x3A))
/-- CB 3B `SRL E` (R298). -/
def execSrl_E (s : State) : StepResult := .next ((rotate .srl (.reg .e) s).charge (s.costCB 0x3B))
/-- CB 3C `SRL H` (R298). -/
def execSrl_H (s : State) : StepResult := .next ((rotate .srl (.reg .h) s).charge (s.costCB 0x3C))
/-- CB 3D `SRL L` (R298). -/
def execSrl_L (s : State) : StepResult := .next ((rotate .srl (.reg .l) s).charge (s.costCB 0x3D))
/-- CB 3E `SRL (HL)` (R298). -/
def execSrl_atHL (s : State) : StepResult := .next ((rotate .srl .atHL s).charge (s.costCB 0x3E))
/-- CB 3F `SRL A` (R298). -/
def execSrl_A (s : State) : StepResult := .next ((rotate .srl (.reg .a) s).charge (s.costCB 0x3F))

/-! R300: `BIT b,r`, `BIT b,(HL)` -/

/-- CB 40 `BIT 0,B` (R300). -/
def execBit_0_B (s : State) : StepResult := .next ((bitTest 0 (.reg .b) s).charge (s.costCB 0x40))
/-- CB 41 `BIT 0,C` (R300). -/
def execBit_0_C (s : State) : StepResult := .next ((bitTest 0 (.reg .c) s).charge (s.costCB 0x41))
/-- CB 42 `BIT 0,D` (R300). -/
def execBit_0_D (s : State) : StepResult := .next ((bitTest 0 (.reg .d) s).charge (s.costCB 0x42))
/-- CB 43 `BIT 0,E` (R300). -/
def execBit_0_E (s : State) : StepResult := .next ((bitTest 0 (.reg .e) s).charge (s.costCB 0x43))
/-- CB 44 `BIT 0,H` (R300). -/
def execBit_0_H (s : State) : StepResult := .next ((bitTest 0 (.reg .h) s).charge (s.costCB 0x44))
/-- CB 45 `BIT 0,L` (R300). -/
def execBit_0_L (s : State) : StepResult := .next ((bitTest 0 (.reg .l) s).charge (s.costCB 0x45))
/-- CB 46 `BIT 0,(HL)` (R300). -/
def execBit_0_atHL (s : State) : StepResult := .next ((bitTest 0 .atHL s).charge (s.costCB 0x46))
/-- CB 47 `BIT 0,A` (R300). -/
def execBit_0_A (s : State) : StepResult := .next ((bitTest 0 (.reg .a) s).charge (s.costCB 0x47))
/-- CB 48 `BIT 1,B` (R300). -/
def execBit_1_B (s : State) : StepResult := .next ((bitTest 1 (.reg .b) s).charge (s.costCB 0x48))
/-- CB 49 `BIT 1,C` (R300). -/
def execBit_1_C (s : State) : StepResult := .next ((bitTest 1 (.reg .c) s).charge (s.costCB 0x49))
/-- CB 4A `BIT 1,D` (R300). -/
def execBit_1_D (s : State) : StepResult := .next ((bitTest 1 (.reg .d) s).charge (s.costCB 0x4A))
/-- CB 4B `BIT 1,E` (R300). -/
def execBit_1_E (s : State) : StepResult := .next ((bitTest 1 (.reg .e) s).charge (s.costCB 0x4B))
/-- CB 4C `BIT 1,H` (R300). -/
def execBit_1_H (s : State) : StepResult := .next ((bitTest 1 (.reg .h) s).charge (s.costCB 0x4C))
/-- CB 4D `BIT 1,L` (R300). -/
def execBit_1_L (s : State) : StepResult := .next ((bitTest 1 (.reg .l) s).charge (s.costCB 0x4D))
/-- CB 4E `BIT 1,(HL)` (R300). -/
def execBit_1_atHL (s : State) : StepResult := .next ((bitTest 1 .atHL s).charge (s.costCB 0x4E))
/-- CB 4F `BIT 1,A` (R300). -/
def execBit_1_A (s : State) : StepResult := .next ((bitTest 1 (.reg .a) s).charge (s.costCB 0x4F))
/-- CB 50 `BIT 2,B` (R300). -/
def execBit_2_B (s : State) : StepResult := .next ((bitTest 2 (.reg .b) s).charge (s.costCB 0x50))
/-- CB 51 `BIT 2,C` (R300). -/
def execBit_2_C (s : State) : StepResult := .next ((bitTest 2 (.reg .c) s).charge (s.costCB 0x51))
/-- CB 52 `BIT 2,D` (R300). -/
def execBit_2_D (s : State) : StepResult := .next ((bitTest 2 (.reg .d) s).charge (s.costCB 0x52))
/-- CB 53 `BIT 2,E` (R300). -/
def execBit_2_E (s : State) : StepResult := .next ((bitTest 2 (.reg .e) s).charge (s.costCB 0x53))
/-- CB 54 `BIT 2,H` (R300). -/
def execBit_2_H (s : State) : StepResult := .next ((bitTest 2 (.reg .h) s).charge (s.costCB 0x54))
/-- CB 55 `BIT 2,L` (R300). -/
def execBit_2_L (s : State) : StepResult := .next ((bitTest 2 (.reg .l) s).charge (s.costCB 0x55))
/-- CB 56 `BIT 2,(HL)` (R300). -/
def execBit_2_atHL (s : State) : StepResult := .next ((bitTest 2 .atHL s).charge (s.costCB 0x56))
/-- CB 57 `BIT 2,A` (R300). -/
def execBit_2_A (s : State) : StepResult := .next ((bitTest 2 (.reg .a) s).charge (s.costCB 0x57))
/-- CB 58 `BIT 3,B` (R300). -/
def execBit_3_B (s : State) : StepResult := .next ((bitTest 3 (.reg .b) s).charge (s.costCB 0x58))
/-- CB 59 `BIT 3,C` (R300). -/
def execBit_3_C (s : State) : StepResult := .next ((bitTest 3 (.reg .c) s).charge (s.costCB 0x59))
/-- CB 5A `BIT 3,D` (R300). -/
def execBit_3_D (s : State) : StepResult := .next ((bitTest 3 (.reg .d) s).charge (s.costCB 0x5A))
/-- CB 5B `BIT 3,E` (R300). -/
def execBit_3_E (s : State) : StepResult := .next ((bitTest 3 (.reg .e) s).charge (s.costCB 0x5B))
/-- CB 5C `BIT 3,H` (R300). -/
def execBit_3_H (s : State) : StepResult := .next ((bitTest 3 (.reg .h) s).charge (s.costCB 0x5C))
/-- CB 5D `BIT 3,L` (R300). -/
def execBit_3_L (s : State) : StepResult := .next ((bitTest 3 (.reg .l) s).charge (s.costCB 0x5D))
/-- CB 5E `BIT 3,(HL)` (R300). -/
def execBit_3_atHL (s : State) : StepResult := .next ((bitTest 3 .atHL s).charge (s.costCB 0x5E))
/-- CB 5F `BIT 3,A` (R300). -/
def execBit_3_A (s : State) : StepResult := .next ((bitTest 3 (.reg .a) s).charge (s.costCB 0x5F))
/-- CB 60 `BIT 4,B` (R300). -/
def execBit_4_B (s : State) : StepResult := .next ((bitTest 4 (.reg .b) s).charge (s.costCB 0x60))
/-- CB 61 `BIT 4,C` (R300). -/
def execBit_4_C (s : State) : StepResult := .next ((bitTest 4 (.reg .c) s).charge (s.costCB 0x61))
/-- CB 62 `BIT 4,D` (R300). -/
def execBit_4_D (s : State) : StepResult := .next ((bitTest 4 (.reg .d) s).charge (s.costCB 0x62))
/-- CB 63 `BIT 4,E` (R300). -/
def execBit_4_E (s : State) : StepResult := .next ((bitTest 4 (.reg .e) s).charge (s.costCB 0x63))
/-- CB 64 `BIT 4,H` (R300). -/
def execBit_4_H (s : State) : StepResult := .next ((bitTest 4 (.reg .h) s).charge (s.costCB 0x64))
/-- CB 65 `BIT 4,L` (R300). -/
def execBit_4_L (s : State) : StepResult := .next ((bitTest 4 (.reg .l) s).charge (s.costCB 0x65))
/-- CB 66 `BIT 4,(HL)` (R300). -/
def execBit_4_atHL (s : State) : StepResult := .next ((bitTest 4 .atHL s).charge (s.costCB 0x66))
/-- CB 67 `BIT 4,A` (R300). -/
def execBit_4_A (s : State) : StepResult := .next ((bitTest 4 (.reg .a) s).charge (s.costCB 0x67))
/-- CB 68 `BIT 5,B` (R300). -/
def execBit_5_B (s : State) : StepResult := .next ((bitTest 5 (.reg .b) s).charge (s.costCB 0x68))
/-- CB 69 `BIT 5,C` (R300). -/
def execBit_5_C (s : State) : StepResult := .next ((bitTest 5 (.reg .c) s).charge (s.costCB 0x69))
/-- CB 6A `BIT 5,D` (R300). -/
def execBit_5_D (s : State) : StepResult := .next ((bitTest 5 (.reg .d) s).charge (s.costCB 0x6A))
/-- CB 6B `BIT 5,E` (R300). -/
def execBit_5_E (s : State) : StepResult := .next ((bitTest 5 (.reg .e) s).charge (s.costCB 0x6B))
/-- CB 6C `BIT 5,H` (R300). -/
def execBit_5_H (s : State) : StepResult := .next ((bitTest 5 (.reg .h) s).charge (s.costCB 0x6C))
/-- CB 6D `BIT 5,L` (R300). -/
def execBit_5_L (s : State) : StepResult := .next ((bitTest 5 (.reg .l) s).charge (s.costCB 0x6D))
/-- CB 6E `BIT 5,(HL)` (R300). -/
def execBit_5_atHL (s : State) : StepResult := .next ((bitTest 5 .atHL s).charge (s.costCB 0x6E))
/-- CB 6F `BIT 5,A` (R300). -/
def execBit_5_A (s : State) : StepResult := .next ((bitTest 5 (.reg .a) s).charge (s.costCB 0x6F))
/-- CB 70 `BIT 6,B` (R300). -/
def execBit_6_B (s : State) : StepResult := .next ((bitTest 6 (.reg .b) s).charge (s.costCB 0x70))
/-- CB 71 `BIT 6,C` (R300). -/
def execBit_6_C (s : State) : StepResult := .next ((bitTest 6 (.reg .c) s).charge (s.costCB 0x71))
/-- CB 72 `BIT 6,D` (R300). -/
def execBit_6_D (s : State) : StepResult := .next ((bitTest 6 (.reg .d) s).charge (s.costCB 0x72))
/-- CB 73 `BIT 6,E` (R300). -/
def execBit_6_E (s : State) : StepResult := .next ((bitTest 6 (.reg .e) s).charge (s.costCB 0x73))
/-- CB 74 `BIT 6,H` (R300). -/
def execBit_6_H (s : State) : StepResult := .next ((bitTest 6 (.reg .h) s).charge (s.costCB 0x74))
/-- CB 75 `BIT 6,L` (R300). -/
def execBit_6_L (s : State) : StepResult := .next ((bitTest 6 (.reg .l) s).charge (s.costCB 0x75))
/-- CB 76 `BIT 6,(HL)` (R300). -/
def execBit_6_atHL (s : State) : StepResult := .next ((bitTest 6 .atHL s).charge (s.costCB 0x76))
/-- CB 77 `BIT 6,A` (R300). -/
def execBit_6_A (s : State) : StepResult := .next ((bitTest 6 (.reg .a) s).charge (s.costCB 0x77))
/-- CB 78 `BIT 7,B` (R300). -/
def execBit_7_B (s : State) : StepResult := .next ((bitTest 7 (.reg .b) s).charge (s.costCB 0x78))
/-- CB 79 `BIT 7,C` (R300). -/
def execBit_7_C (s : State) : StepResult := .next ((bitTest 7 (.reg .c) s).charge (s.costCB 0x79))
/-- CB 7A `BIT 7,D` (R300). -/
def execBit_7_D (s : State) : StepResult := .next ((bitTest 7 (.reg .d) s).charge (s.costCB 0x7A))
/-- CB 7B `BIT 7,E` (R300). -/
def execBit_7_E (s : State) : StepResult := .next ((bitTest 7 (.reg .e) s).charge (s.costCB 0x7B))
/-- CB 7C `BIT 7,H` (R300). -/
def execBit_7_H (s : State) : StepResult := .next ((bitTest 7 (.reg .h) s).charge (s.costCB 0x7C))
/-- CB 7D `BIT 7,L` (R300). -/
def execBit_7_L (s : State) : StepResult := .next ((bitTest 7 (.reg .l) s).charge (s.costCB 0x7D))
/-- CB 7E `BIT 7,(HL)` (R300). -/
def execBit_7_atHL (s : State) : StepResult := .next ((bitTest 7 .atHL s).charge (s.costCB 0x7E))
/-- CB 7F `BIT 7,A` (R300). -/
def execBit_7_A (s : State) : StepResult := .next ((bitTest 7 (.reg .a) s).charge (s.costCB 0x7F))

/-! R301: `RES b,r`, `RES b,(HL)` -/

/-- CB 80 `RES 0,B` (R301). -/
def execRes_0_B (s : State) : StepResult := .next ((bitReset 0 (.reg .b) s).charge (s.costCB 0x80))
/-- CB 81 `RES 0,C` (R301). -/
def execRes_0_C (s : State) : StepResult := .next ((bitReset 0 (.reg .c) s).charge (s.costCB 0x81))
/-- CB 82 `RES 0,D` (R301). -/
def execRes_0_D (s : State) : StepResult := .next ((bitReset 0 (.reg .d) s).charge (s.costCB 0x82))
/-- CB 83 `RES 0,E` (R301). -/
def execRes_0_E (s : State) : StepResult := .next ((bitReset 0 (.reg .e) s).charge (s.costCB 0x83))
/-- CB 84 `RES 0,H` (R301). -/
def execRes_0_H (s : State) : StepResult := .next ((bitReset 0 (.reg .h) s).charge (s.costCB 0x84))
/-- CB 85 `RES 0,L` (R301). -/
def execRes_0_L (s : State) : StepResult := .next ((bitReset 0 (.reg .l) s).charge (s.costCB 0x85))
/-- CB 86 `RES 0,(HL)` (R301). -/
def execRes_0_atHL (s : State) : StepResult := .next ((bitReset 0 .atHL s).charge (s.costCB 0x86))
/-- CB 87 `RES 0,A` (R301). -/
def execRes_0_A (s : State) : StepResult := .next ((bitReset 0 (.reg .a) s).charge (s.costCB 0x87))
/-- CB 88 `RES 1,B` (R301). -/
def execRes_1_B (s : State) : StepResult := .next ((bitReset 1 (.reg .b) s).charge (s.costCB 0x88))
/-- CB 89 `RES 1,C` (R301). -/
def execRes_1_C (s : State) : StepResult := .next ((bitReset 1 (.reg .c) s).charge (s.costCB 0x89))
/-- CB 8A `RES 1,D` (R301). -/
def execRes_1_D (s : State) : StepResult := .next ((bitReset 1 (.reg .d) s).charge (s.costCB 0x8A))
/-- CB 8B `RES 1,E` (R301). -/
def execRes_1_E (s : State) : StepResult := .next ((bitReset 1 (.reg .e) s).charge (s.costCB 0x8B))
/-- CB 8C `RES 1,H` (R301). -/
def execRes_1_H (s : State) : StepResult := .next ((bitReset 1 (.reg .h) s).charge (s.costCB 0x8C))
/-- CB 8D `RES 1,L` (R301). -/
def execRes_1_L (s : State) : StepResult := .next ((bitReset 1 (.reg .l) s).charge (s.costCB 0x8D))
/-- CB 8E `RES 1,(HL)` (R301). -/
def execRes_1_atHL (s : State) : StepResult := .next ((bitReset 1 .atHL s).charge (s.costCB 0x8E))
/-- CB 8F `RES 1,A` (R301). -/
def execRes_1_A (s : State) : StepResult := .next ((bitReset 1 (.reg .a) s).charge (s.costCB 0x8F))
/-- CB 90 `RES 2,B` (R301). -/
def execRes_2_B (s : State) : StepResult := .next ((bitReset 2 (.reg .b) s).charge (s.costCB 0x90))
/-- CB 91 `RES 2,C` (R301). -/
def execRes_2_C (s : State) : StepResult := .next ((bitReset 2 (.reg .c) s).charge (s.costCB 0x91))
/-- CB 92 `RES 2,D` (R301). -/
def execRes_2_D (s : State) : StepResult := .next ((bitReset 2 (.reg .d) s).charge (s.costCB 0x92))
/-- CB 93 `RES 2,E` (R301). -/
def execRes_2_E (s : State) : StepResult := .next ((bitReset 2 (.reg .e) s).charge (s.costCB 0x93))
/-- CB 94 `RES 2,H` (R301). -/
def execRes_2_H (s : State) : StepResult := .next ((bitReset 2 (.reg .h) s).charge (s.costCB 0x94))
/-- CB 95 `RES 2,L` (R301). -/
def execRes_2_L (s : State) : StepResult := .next ((bitReset 2 (.reg .l) s).charge (s.costCB 0x95))
/-- CB 96 `RES 2,(HL)` (R301). -/
def execRes_2_atHL (s : State) : StepResult := .next ((bitReset 2 .atHL s).charge (s.costCB 0x96))
/-- CB 97 `RES 2,A` (R301). -/
def execRes_2_A (s : State) : StepResult := .next ((bitReset 2 (.reg .a) s).charge (s.costCB 0x97))
/-- CB 98 `RES 3,B` (R301). -/
def execRes_3_B (s : State) : StepResult := .next ((bitReset 3 (.reg .b) s).charge (s.costCB 0x98))
/-- CB 99 `RES 3,C` (R301). -/
def execRes_3_C (s : State) : StepResult := .next ((bitReset 3 (.reg .c) s).charge (s.costCB 0x99))
/-- CB 9A `RES 3,D` (R301). -/
def execRes_3_D (s : State) : StepResult := .next ((bitReset 3 (.reg .d) s).charge (s.costCB 0x9A))
/-- CB 9B `RES 3,E` (R301). -/
def execRes_3_E (s : State) : StepResult := .next ((bitReset 3 (.reg .e) s).charge (s.costCB 0x9B))
/-- CB 9C `RES 3,H` (R301). -/
def execRes_3_H (s : State) : StepResult := .next ((bitReset 3 (.reg .h) s).charge (s.costCB 0x9C))
/-- CB 9D `RES 3,L` (R301). -/
def execRes_3_L (s : State) : StepResult := .next ((bitReset 3 (.reg .l) s).charge (s.costCB 0x9D))
/-- CB 9E `RES 3,(HL)` (R301). -/
def execRes_3_atHL (s : State) : StepResult := .next ((bitReset 3 .atHL s).charge (s.costCB 0x9E))
/-- CB 9F `RES 3,A` (R301). -/
def execRes_3_A (s : State) : StepResult := .next ((bitReset 3 (.reg .a) s).charge (s.costCB 0x9F))
/-- CB A0 `RES 4,B` (R301). -/
def execRes_4_B (s : State) : StepResult := .next ((bitReset 4 (.reg .b) s).charge (s.costCB 0xA0))
/-- CB A1 `RES 4,C` (R301). -/
def execRes_4_C (s : State) : StepResult := .next ((bitReset 4 (.reg .c) s).charge (s.costCB 0xA1))
/-- CB A2 `RES 4,D` (R301). -/
def execRes_4_D (s : State) : StepResult := .next ((bitReset 4 (.reg .d) s).charge (s.costCB 0xA2))
/-- CB A3 `RES 4,E` (R301). -/
def execRes_4_E (s : State) : StepResult := .next ((bitReset 4 (.reg .e) s).charge (s.costCB 0xA3))
/-- CB A4 `RES 4,H` (R301). -/
def execRes_4_H (s : State) : StepResult := .next ((bitReset 4 (.reg .h) s).charge (s.costCB 0xA4))
/-- CB A5 `RES 4,L` (R301). -/
def execRes_4_L (s : State) : StepResult := .next ((bitReset 4 (.reg .l) s).charge (s.costCB 0xA5))
/-- CB A6 `RES 4,(HL)` (R301). -/
def execRes_4_atHL (s : State) : StepResult := .next ((bitReset 4 .atHL s).charge (s.costCB 0xA6))
/-- CB A7 `RES 4,A` (R301). -/
def execRes_4_A (s : State) : StepResult := .next ((bitReset 4 (.reg .a) s).charge (s.costCB 0xA7))
/-- CB A8 `RES 5,B` (R301). -/
def execRes_5_B (s : State) : StepResult := .next ((bitReset 5 (.reg .b) s).charge (s.costCB 0xA8))
/-- CB A9 `RES 5,C` (R301). -/
def execRes_5_C (s : State) : StepResult := .next ((bitReset 5 (.reg .c) s).charge (s.costCB 0xA9))
/-- CB AA `RES 5,D` (R301). -/
def execRes_5_D (s : State) : StepResult := .next ((bitReset 5 (.reg .d) s).charge (s.costCB 0xAA))
/-- CB AB `RES 5,E` (R301). -/
def execRes_5_E (s : State) : StepResult := .next ((bitReset 5 (.reg .e) s).charge (s.costCB 0xAB))
/-- CB AC `RES 5,H` (R301). -/
def execRes_5_H (s : State) : StepResult := .next ((bitReset 5 (.reg .h) s).charge (s.costCB 0xAC))
/-- CB AD `RES 5,L` (R301). -/
def execRes_5_L (s : State) : StepResult := .next ((bitReset 5 (.reg .l) s).charge (s.costCB 0xAD))
/-- CB AE `RES 5,(HL)` (R301). -/
def execRes_5_atHL (s : State) : StepResult := .next ((bitReset 5 .atHL s).charge (s.costCB 0xAE))
/-- CB AF `RES 5,A` (R301). -/
def execRes_5_A (s : State) : StepResult := .next ((bitReset 5 (.reg .a) s).charge (s.costCB 0xAF))
/-- CB B0 `RES 6,B` (R301). -/
def execRes_6_B (s : State) : StepResult := .next ((bitReset 6 (.reg .b) s).charge (s.costCB 0xB0))
/-- CB B1 `RES 6,C` (R301). -/
def execRes_6_C (s : State) : StepResult := .next ((bitReset 6 (.reg .c) s).charge (s.costCB 0xB1))
/-- CB B2 `RES 6,D` (R301). -/
def execRes_6_D (s : State) : StepResult := .next ((bitReset 6 (.reg .d) s).charge (s.costCB 0xB2))
/-- CB B3 `RES 6,E` (R301). -/
def execRes_6_E (s : State) : StepResult := .next ((bitReset 6 (.reg .e) s).charge (s.costCB 0xB3))
/-- CB B4 `RES 6,H` (R301). -/
def execRes_6_H (s : State) : StepResult := .next ((bitReset 6 (.reg .h) s).charge (s.costCB 0xB4))
/-- CB B5 `RES 6,L` (R301). -/
def execRes_6_L (s : State) : StepResult := .next ((bitReset 6 (.reg .l) s).charge (s.costCB 0xB5))
/-- CB B6 `RES 6,(HL)` (R301). -/
def execRes_6_atHL (s : State) : StepResult := .next ((bitReset 6 .atHL s).charge (s.costCB 0xB6))
/-- CB B7 `RES 6,A` (R301). -/
def execRes_6_A (s : State) : StepResult := .next ((bitReset 6 (.reg .a) s).charge (s.costCB 0xB7))
/-- CB B8 `RES 7,B` (R301). -/
def execRes_7_B (s : State) : StepResult := .next ((bitReset 7 (.reg .b) s).charge (s.costCB 0xB8))
/-- CB B9 `RES 7,C` (R301). -/
def execRes_7_C (s : State) : StepResult := .next ((bitReset 7 (.reg .c) s).charge (s.costCB 0xB9))
/-- CB BA `RES 7,D` (R301). -/
def execRes_7_D (s : State) : StepResult := .next ((bitReset 7 (.reg .d) s).charge (s.costCB 0xBA))
/-- CB BB `RES 7,E` (R301). -/
def execRes_7_E (s : State) : StepResult := .next ((bitReset 7 (.reg .e) s).charge (s.costCB 0xBB))
/-- CB BC `RES 7,H` (R301). -/
def execRes_7_H (s : State) : StepResult := .next ((bitReset 7 (.reg .h) s).charge (s.costCB 0xBC))
/-- CB BD `RES 7,L` (R301). -/
def execRes_7_L (s : State) : StepResult := .next ((bitReset 7 (.reg .l) s).charge (s.costCB 0xBD))
/-- CB BE `RES 7,(HL)` (R301). -/
def execRes_7_atHL (s : State) : StepResult := .next ((bitReset 7 .atHL s).charge (s.costCB 0xBE))
/-- CB BF `RES 7,A` (R301). -/
def execRes_7_A (s : State) : StepResult := .next ((bitReset 7 (.reg .a) s).charge (s.costCB 0xBF))

/-! R302: `SET b,r`, `SET b,(HL)` -/

/-- CB C0 `SET 0,B` (R302). -/
def execSet_0_B (s : State) : StepResult := .next ((bitSet 0 (.reg .b) s).charge (s.costCB 0xC0))
/-- CB C1 `SET 0,C` (R302). -/
def execSet_0_C (s : State) : StepResult := .next ((bitSet 0 (.reg .c) s).charge (s.costCB 0xC1))
/-- CB C2 `SET 0,D` (R302). -/
def execSet_0_D (s : State) : StepResult := .next ((bitSet 0 (.reg .d) s).charge (s.costCB 0xC2))
/-- CB C3 `SET 0,E` (R302). -/
def execSet_0_E (s : State) : StepResult := .next ((bitSet 0 (.reg .e) s).charge (s.costCB 0xC3))
/-- CB C4 `SET 0,H` (R302). -/
def execSet_0_H (s : State) : StepResult := .next ((bitSet 0 (.reg .h) s).charge (s.costCB 0xC4))
/-- CB C5 `SET 0,L` (R302). -/
def execSet_0_L (s : State) : StepResult := .next ((bitSet 0 (.reg .l) s).charge (s.costCB 0xC5))
/-- CB C6 `SET 0,(HL)` (R302). -/
def execSet_0_atHL (s : State) : StepResult := .next ((bitSet 0 .atHL s).charge (s.costCB 0xC6))
/-- CB C7 `SET 0,A` (R302). -/
def execSet_0_A (s : State) : StepResult := .next ((bitSet 0 (.reg .a) s).charge (s.costCB 0xC7))
/-- CB C8 `SET 1,B` (R302). -/
def execSet_1_B (s : State) : StepResult := .next ((bitSet 1 (.reg .b) s).charge (s.costCB 0xC8))
/-- CB C9 `SET 1,C` (R302). -/
def execSet_1_C (s : State) : StepResult := .next ((bitSet 1 (.reg .c) s).charge (s.costCB 0xC9))
/-- CB CA `SET 1,D` (R302). -/
def execSet_1_D (s : State) : StepResult := .next ((bitSet 1 (.reg .d) s).charge (s.costCB 0xCA))
/-- CB CB `SET 1,E` (R302). -/
def execSet_1_E (s : State) : StepResult := .next ((bitSet 1 (.reg .e) s).charge (s.costCB 0xCB))
/-- CB CC `SET 1,H` (R302). -/
def execSet_1_H (s : State) : StepResult := .next ((bitSet 1 (.reg .h) s).charge (s.costCB 0xCC))
/-- CB CD `SET 1,L` (R302). -/
def execSet_1_L (s : State) : StepResult := .next ((bitSet 1 (.reg .l) s).charge (s.costCB 0xCD))
/-- CB CE `SET 1,(HL)` (R302). -/
def execSet_1_atHL (s : State) : StepResult := .next ((bitSet 1 .atHL s).charge (s.costCB 0xCE))
/-- CB CF `SET 1,A` (R302). -/
def execSet_1_A (s : State) : StepResult := .next ((bitSet 1 (.reg .a) s).charge (s.costCB 0xCF))
/-- CB D0 `SET 2,B` (R302). -/
def execSet_2_B (s : State) : StepResult := .next ((bitSet 2 (.reg .b) s).charge (s.costCB 0xD0))
/-- CB D1 `SET 2,C` (R302). -/
def execSet_2_C (s : State) : StepResult := .next ((bitSet 2 (.reg .c) s).charge (s.costCB 0xD1))
/-- CB D2 `SET 2,D` (R302). -/
def execSet_2_D (s : State) : StepResult := .next ((bitSet 2 (.reg .d) s).charge (s.costCB 0xD2))
/-- CB D3 `SET 2,E` (R302). -/
def execSet_2_E (s : State) : StepResult := .next ((bitSet 2 (.reg .e) s).charge (s.costCB 0xD3))
/-- CB D4 `SET 2,H` (R302). -/
def execSet_2_H (s : State) : StepResult := .next ((bitSet 2 (.reg .h) s).charge (s.costCB 0xD4))
/-- CB D5 `SET 2,L` (R302). -/
def execSet_2_L (s : State) : StepResult := .next ((bitSet 2 (.reg .l) s).charge (s.costCB 0xD5))
/-- CB D6 `SET 2,(HL)` (R302). -/
def execSet_2_atHL (s : State) : StepResult := .next ((bitSet 2 .atHL s).charge (s.costCB 0xD6))
/-- CB D7 `SET 2,A` (R302). -/
def execSet_2_A (s : State) : StepResult := .next ((bitSet 2 (.reg .a) s).charge (s.costCB 0xD7))
/-- CB D8 `SET 3,B` (R302). -/
def execSet_3_B (s : State) : StepResult := .next ((bitSet 3 (.reg .b) s).charge (s.costCB 0xD8))
/-- CB D9 `SET 3,C` (R302). -/
def execSet_3_C (s : State) : StepResult := .next ((bitSet 3 (.reg .c) s).charge (s.costCB 0xD9))
/-- CB DA `SET 3,D` (R302). -/
def execSet_3_D (s : State) : StepResult := .next ((bitSet 3 (.reg .d) s).charge (s.costCB 0xDA))
/-- CB DB `SET 3,E` (R302). -/
def execSet_3_E (s : State) : StepResult := .next ((bitSet 3 (.reg .e) s).charge (s.costCB 0xDB))
/-- CB DC `SET 3,H` (R302). -/
def execSet_3_H (s : State) : StepResult := .next ((bitSet 3 (.reg .h) s).charge (s.costCB 0xDC))
/-- CB DD `SET 3,L` (R302). -/
def execSet_3_L (s : State) : StepResult := .next ((bitSet 3 (.reg .l) s).charge (s.costCB 0xDD))
/-- CB DE `SET 3,(HL)` (R302). -/
def execSet_3_atHL (s : State) : StepResult := .next ((bitSet 3 .atHL s).charge (s.costCB 0xDE))
/-- CB DF `SET 3,A` (R302). -/
def execSet_3_A (s : State) : StepResult := .next ((bitSet 3 (.reg .a) s).charge (s.costCB 0xDF))
/-- CB E0 `SET 4,B` (R302). -/
def execSet_4_B (s : State) : StepResult := .next ((bitSet 4 (.reg .b) s).charge (s.costCB 0xE0))
/-- CB E1 `SET 4,C` (R302). -/
def execSet_4_C (s : State) : StepResult := .next ((bitSet 4 (.reg .c) s).charge (s.costCB 0xE1))
/-- CB E2 `SET 4,D` (R302). -/
def execSet_4_D (s : State) : StepResult := .next ((bitSet 4 (.reg .d) s).charge (s.costCB 0xE2))
/-- CB E3 `SET 4,E` (R302). -/
def execSet_4_E (s : State) : StepResult := .next ((bitSet 4 (.reg .e) s).charge (s.costCB 0xE3))
/-- CB E4 `SET 4,H` (R302). -/
def execSet_4_H (s : State) : StepResult := .next ((bitSet 4 (.reg .h) s).charge (s.costCB 0xE4))
/-- CB E5 `SET 4,L` (R302). -/
def execSet_4_L (s : State) : StepResult := .next ((bitSet 4 (.reg .l) s).charge (s.costCB 0xE5))
/-- CB E6 `SET 4,(HL)` (R302). -/
def execSet_4_atHL (s : State) : StepResult := .next ((bitSet 4 .atHL s).charge (s.costCB 0xE6))
/-- CB E7 `SET 4,A` (R302). -/
def execSet_4_A (s : State) : StepResult := .next ((bitSet 4 (.reg .a) s).charge (s.costCB 0xE7))
/-- CB E8 `SET 5,B` (R302). -/
def execSet_5_B (s : State) : StepResult := .next ((bitSet 5 (.reg .b) s).charge (s.costCB 0xE8))
/-- CB E9 `SET 5,C` (R302). -/
def execSet_5_C (s : State) : StepResult := .next ((bitSet 5 (.reg .c) s).charge (s.costCB 0xE9))
/-- CB EA `SET 5,D` (R302). -/
def execSet_5_D (s : State) : StepResult := .next ((bitSet 5 (.reg .d) s).charge (s.costCB 0xEA))
/-- CB EB `SET 5,E` (R302). -/
def execSet_5_E (s : State) : StepResult := .next ((bitSet 5 (.reg .e) s).charge (s.costCB 0xEB))
/-- CB EC `SET 5,H` (R302). -/
def execSet_5_H (s : State) : StepResult := .next ((bitSet 5 (.reg .h) s).charge (s.costCB 0xEC))
/-- CB ED `SET 5,L` (R302). -/
def execSet_5_L (s : State) : StepResult := .next ((bitSet 5 (.reg .l) s).charge (s.costCB 0xED))
/-- CB EE `SET 5,(HL)` (R302). -/
def execSet_5_atHL (s : State) : StepResult := .next ((bitSet 5 .atHL s).charge (s.costCB 0xEE))
/-- CB EF `SET 5,A` (R302). -/
def execSet_5_A (s : State) : StepResult := .next ((bitSet 5 (.reg .a) s).charge (s.costCB 0xEF))
/-- CB F0 `SET 6,B` (R302). -/
def execSet_6_B (s : State) : StepResult := .next ((bitSet 6 (.reg .b) s).charge (s.costCB 0xF0))
/-- CB F1 `SET 6,C` (R302). -/
def execSet_6_C (s : State) : StepResult := .next ((bitSet 6 (.reg .c) s).charge (s.costCB 0xF1))
/-- CB F2 `SET 6,D` (R302). -/
def execSet_6_D (s : State) : StepResult := .next ((bitSet 6 (.reg .d) s).charge (s.costCB 0xF2))
/-- CB F3 `SET 6,E` (R302). -/
def execSet_6_E (s : State) : StepResult := .next ((bitSet 6 (.reg .e) s).charge (s.costCB 0xF3))
/-- CB F4 `SET 6,H` (R302). -/
def execSet_6_H (s : State) : StepResult := .next ((bitSet 6 (.reg .h) s).charge (s.costCB 0xF4))
/-- CB F5 `SET 6,L` (R302). -/
def execSet_6_L (s : State) : StepResult := .next ((bitSet 6 (.reg .l) s).charge (s.costCB 0xF5))
/-- CB F6 `SET 6,(HL)` (R302). -/
def execSet_6_atHL (s : State) : StepResult := .next ((bitSet 6 .atHL s).charge (s.costCB 0xF6))
/-- CB F7 `SET 6,A` (R302). -/
def execSet_6_A (s : State) : StepResult := .next ((bitSet 6 (.reg .a) s).charge (s.costCB 0xF7))
/-- CB F8 `SET 7,B` (R302). -/
def execSet_7_B (s : State) : StepResult := .next ((bitSet 7 (.reg .b) s).charge (s.costCB 0xF8))
/-- CB F9 `SET 7,C` (R302). -/
def execSet_7_C (s : State) : StepResult := .next ((bitSet 7 (.reg .c) s).charge (s.costCB 0xF9))
/-- CB FA `SET 7,D` (R302). -/
def execSet_7_D (s : State) : StepResult := .next ((bitSet 7 (.reg .d) s).charge (s.costCB 0xFA))
/-- CB FB `SET 7,E` (R302). -/
def execSet_7_E (s : State) : StepResult := .next ((bitSet 7 (.reg .e) s).charge (s.costCB 0xFB))
/-- CB FC `SET 7,H` (R302). -/
def execSet_7_H (s : State) : StepResult := .next ((bitSet 7 (.reg .h) s).charge (s.costCB 0xFC))
/-- CB FD `SET 7,L` (R302). -/
def execSet_7_L (s : State) : StepResult := .next ((bitSet 7 (.reg .l) s).charge (s.costCB 0xFD))
/-- CB FE `SET 7,(HL)` (R302). -/
def execSet_7_atHL (s : State) : StepResult := .next ((bitSet 7 .atHL s).charge (s.costCB 0xFE))
/-- CB FF `SET 7,A` (R302). -/
def execSet_7_A (s : State) : StepResult := .next ((bitSet 7 (.reg .a) s).charge (s.costCB 0xFF))

end Sys2Proof.Machine
end

