-- ==== Sys2Proof/Machine/Unimplemented.lean ====
section
/-! DEFINITION. The rows that are no instruction of their own: the eleven bytes with no table entry (R501), and the prefix byte (R363). -/

namespace Sys2Proof.Machine

/-- The fatal fault of a base byte with no table entry (R363, R500, R501). -/
def raiseUnimplemented (opcode : Byte) (s : State) : State :=
  s.raiseFault .unimplementedOpcode opcode false

/-! R363: `prefix` -/

/-- CB `(prefix CB)` (R363). -/
def execPrefixCB (op2 : Byte) (s : State) : StepResult := .next ((runExtended op2 s).charge (s.costCB op2))

/-! R501: `unimplemented` -/

/-- D3 `(unimplemented)` (R501). -/
def execUndef_D3 (s : State) : StepResult := .next (raiseUnimplemented 0xD3 s)
/-- DB `(unimplemented)` (R501). -/
def execUndef_DB (s : State) : StepResult := .next (raiseUnimplemented 0xDB s)
/-- DD `(unimplemented)` (R501). -/
def execUndef_DD (s : State) : StepResult := .next (raiseUnimplemented 0xDD s)
/-- E3 `(unimplemented)` (R501). -/
def execUndef_E3 (s : State) : StepResult := .next (raiseUnimplemented 0xE3 s)
/-- E4 `(unimplemented)` (R501). -/
def execUndef_E4 (s : State) : StepResult := .next (raiseUnimplemented 0xE4 s)
/-- EB `(unimplemented)` (R501). -/
def execUndef_EB (s : State) : StepResult := .next (raiseUnimplemented 0xEB s)
/-- EC `(unimplemented)` (R501). -/
def execUndef_EC (s : State) : StepResult := .next (raiseUnimplemented 0xEC s)
/-- ED `(unimplemented)` (R501). -/
def execUndef_ED (s : State) : StepResult := .next (raiseUnimplemented 0xED s)
/-- F4 `(unimplemented)` (R501). -/
def execUndef_F4 (s : State) : StepResult := .next (raiseUnimplemented 0xF4 s)
/-- FC `(unimplemented)` (R501). -/
def execUndef_FC (s : State) : StepResult := .next (raiseUnimplemented 0xFC s)
/-- FD `(unimplemented)` (R501). -/
def execUndef_FD (s : State) : StepResult := .next (raiseUnimplemented 0xFD s)

end Sys2Proof.Machine
end

