-- ==== Sys2Proof/Syntax.lean ====
section
/-! DEFINITION. The instructions: one constructor per row of opcode_table.json, the rows with operand bytes first, each group in the table's order (R112, R115). -/

namespace Sys2Proof

/-- One constructor per row of the opcode table. A name is the row's mnemonic and operands: `at` stands
for parentheses (`ld_A_atHL` is `LD A,(HL)`), `inc` and `dec` for `(HL+)` and `(HL-)`. An instruction
carries the bytes that follow its opcode (R104): `n`, `nn`, `e`, the ignored byte of STOP (there if `P_STOP_LEN` is 2). `undef_XX` is a
byte of the base table with no entry (R113). `prefixCB` is the row of the byte 0xCB itself (R114), with the
byte after it. (Lean can compile a constructor with fields only if it is among the first 245, so the rows
with operand bytes stand first.) -/
inductive Instr where
  | ld_BC_nn (nn : Word)  -- 01, LD BC,nn, R420
  | ld_B_n (n : Byte)  -- 06, LD B,n, R401
  | ld_atnn_SP (nn : Word)  -- 08, LD (nn),SP, R423
  | ld_C_n (n : Byte)  -- 0E, LD C,n, R401
  | stop (b : Option Byte)  -- 10, STOP, R382
  | ld_DE_nn (nn : Word)  -- 11, LD DE,nn, R420
  | ld_D_n (n : Byte)  -- 16, LD D,n, R401
  | jr_e (e : Byte)  -- 18, JR e, R326
  | ld_E_n (n : Byte)  -- 1E, LD E,n, R401
  | jr_NZ_e (e : Byte)  -- 20, JR NZ,e, R327
  | ld_HL_nn (nn : Word)  -- 21, LD HL,nn, R420
  | ld_H_n (n : Byte)  -- 26, LD H,n, R401
  | jr_Z_e (e : Byte)  -- 28, JR Z,e, R327
  | ld_L_n (n : Byte)  -- 2E, LD L,n, R401
  | jr_NC_e (e : Byte)  -- 30, JR NC,e, R327
  | ld_SP_nn (nn : Word)  -- 31, LD SP,nn, R420
  | ld_atHL_n (n : Byte)  -- 36, LD (HL),n, R404
  | jr_C_e (e : Byte)  -- 38, JR C,e, R327
  | ld_A_n (n : Byte)  -- 3E, LD A,n, R401
  | jp_NZ_nn (nn : Word)  -- C2, JP NZ,nn, R324
  | jp_nn (nn : Word)  -- C3, JP nn, R323
  | call_NZ_nn (nn : Word)  -- C4, CALL NZ,nn, R329
  | add_A_n (n : Byte)  -- C6, ADD A,n, R201
  | jp_Z_nn (nn : Word)  -- CA, JP Z,nn, R324
  | prefixCB (op2 : Byte)  -- CB, (prefix CB), R363
  | call_Z_nn (nn : Word)  -- CC, CALL Z,nn, R329
  | call_nn (nn : Word)  -- CD, CALL nn, R328
  | adc_A_n (n : Byte)  -- CE, ADC A,n, R202
  | jp_NC_nn (nn : Word)  -- D2, JP NC,nn, R324
  | call_NC_nn (nn : Word)  -- D4, CALL NC,nn, R329
  | sub_n (n : Byte)  -- D6, SUB n, R203
  | jp_C_nn (nn : Word)  -- DA, JP C,nn, R324
  | call_C_nn (nn : Word)  -- DC, CALL C,nn, R329
  | sbc_A_n (n : Byte)  -- DE, SBC A,n, R204
  | ldh_atn_A (n : Byte)  -- E0, LDH (n),A, R416
  | and_n (n : Byte)  -- E6, AND n, R205
  | add_SP_e (e : Byte)  -- E8, ADD SP,e, R261
  | ld_atnn_A (nn : Word)  -- EA, LD (nn),A, R410
  | xor_n (n : Byte)  -- EE, XOR n, R206
  | ldh_A_atn (n : Byte)  -- F0, LDH A,(n), R417
  | or_n (n : Byte)  -- F6, OR n, R207
  | ld_HL_SPe (e : Byte)  -- F8, LD HL,SP+e, R262
  | ld_A_atnn (nn : Word)  -- FA, LD A,(nn), R409
  | cp_n (n : Byte)  -- FE, CP n, R208
  | nop  -- 00, NOP, R380
  | ld_atBC_A  -- 02, LD (BC),A, R407
  | inc_BC  -- 03, INC BC, R251
  | inc_B  -- 04, INC B, R210
  | dec_B  -- 05, DEC B, R212
  | rlca  -- 07, RLCA, R280
  | add_HL_BC  -- 09, ADD HL,BC, R250
  | ld_A_atBC  -- 0A, LD A,(BC), R405
  | dec_BC  -- 0B, DEC BC, R252
  | inc_C  -- 0C, INC C, R210
  | dec_C  -- 0D, DEC C, R212
  | rrca  -- 0F, RRCA, R281
  | ld_atDE_A  -- 12, LD (DE),A, R408
  | inc_DE  -- 13, INC DE, R251
  | inc_D  -- 14, INC D, R210
  | dec_D  -- 15, DEC D, R212
  | rla  -- 17, RLA, R282
  | add_HL_DE  -- 19, ADD HL,DE, R250
  | ld_A_atDE  -- 1A, LD A,(DE), R406
  | dec_DE  -- 1B, DEC DE, R252
  | inc_E  -- 1C, INC E, R210
  | dec_E  -- 1D, DEC E, R212
  | rra  -- 1F, RRA, R283
  | ld_atHLinc_A  -- 22, LD (HL+),A, R413
  | inc_HL  -- 23, INC HL, R251
  | inc_H  -- 24, INC H, R210
  | dec_H  -- 25, DEC H, R212
  | daa  -- 27, DAA, R230
  | add_HL_HL  -- 29, ADD HL,HL, R250
  | ld_A_atHLinc  -- 2A, LD A,(HL+), R411
  | dec_HL  -- 2B, DEC HL, R252
  | inc_L  -- 2C, INC L, R210
  | dec_L  -- 2D, DEC L, R212
  | cpl  -- 2F, CPL, R231
  | ld_atHLdec_A  -- 32, LD (HL-),A, R414
  | inc_SP  -- 33, INC SP, R251
  | inc_atHL  -- 34, INC (HL), R211
  | dec_atHL  -- 35, DEC (HL), R213
  | scf  -- 37, SCF, R233
  | add_HL_SP  -- 39, ADD HL,SP, R250
  | ld_A_atHLdec  -- 3A, LD A,(HL-), R412
  | dec_SP  -- 3B, DEC SP, R252
  | inc_A  -- 3C, INC A, R210
  | dec_A  -- 3D, DEC A, R212
  | ccf  -- 3F, CCF, R232
  | ld_B_B  -- 40, LD B,B, R400
  | ld_B_C  -- 41, LD B,C, R400
  | ld_B_D  -- 42, LD B,D, R400
  | ld_B_E  -- 43, LD B,E, R400
  | ld_B_H  -- 44, LD B,H, R400
  | ld_B_L  -- 45, LD B,L, R400
  | ld_B_atHL  -- 46, LD B,(HL), R402
  | ld_B_A  -- 47, LD B,A, R400
  | ld_C_B  -- 48, LD C,B, R400
  | ld_C_C  -- 49, LD C,C, R400
  | ld_C_D  -- 4A, LD C,D, R400
  | ld_C_E  -- 4B, LD C,E, R400
  | ld_C_H  -- 4C, LD C,H, R400
  | ld_C_L  -- 4D, LD C,L, R400
  | ld_C_atHL  -- 4E, LD C,(HL), R402
  | ld_C_A  -- 4F, LD C,A, R400
  | ld_D_B  -- 50, LD D,B, R400
  | ld_D_C  -- 51, LD D,C, R400
  | ld_D_D  -- 52, LD D,D, R400
  | ld_D_E  -- 53, LD D,E, R400
  | ld_D_H  -- 54, LD D,H, R400
  | ld_D_L  -- 55, LD D,L, R400
  | ld_D_atHL  -- 56, LD D,(HL), R402
  | ld_D_A  -- 57, LD D,A, R400
  | ld_E_B  -- 58, LD E,B, R400
  | ld_E_C  -- 59, LD E,C, R400
  | ld_E_D  -- 5A, LD E,D, R400
  | ld_E_E  -- 5B, LD E,E, R400
  | ld_E_H  -- 5C, LD E,H, R400
  | ld_E_L  -- 5D, LD E,L, R400
  | ld_E_atHL  -- 5E, LD E,(HL), R402
  | ld_E_A  -- 5F, LD E,A, R400
  | ld_H_B  -- 60, LD H,B, R400
  | ld_H_C  -- 61, LD H,C, R400
  | ld_H_D  -- 62, LD H,D, R400
  | ld_H_E  -- 63, LD H,E, R400
  | ld_H_H  -- 64, LD H,H, R400
  | ld_H_L  -- 65, LD H,L, R400
  | ld_H_atHL  -- 66, LD H,(HL), R402
  | ld_H_A  -- 67, LD H,A, R400
  | ld_L_B  -- 68, LD L,B, R400
  | ld_L_C  -- 69, LD L,C, R400
  | ld_L_D  -- 6A, LD L,D, R400
  | ld_L_E  -- 6B, LD L,E, R400
  | ld_L_H  -- 6C, LD L,H, R400
  | ld_L_L  -- 6D, LD L,L, R400
  | ld_L_atHL  -- 6E, LD L,(HL), R402
  | ld_L_A  -- 6F, LD L,A, R400
  | ld_atHL_B  -- 70, LD (HL),B, R403
  | ld_atHL_C  -- 71, LD (HL),C, R403
  | ld_atHL_D  -- 72, LD (HL),D, R403
  | ld_atHL_E  -- 73, LD (HL),E, R403
  | ld_atHL_H  -- 74, LD (HL),H, R403
  | ld_atHL_L  -- 75, LD (HL),L, R403
  | halt  -- 76, HALT, R381
  | ld_atHL_A  -- 77, LD (HL),A, R403
  | ld_A_B  -- 78, LD A,B, R400
  | ld_A_C  -- 79, LD A,C, R400
  | ld_A_D  -- 7A, LD A,D, R400
  | ld_A_E  -- 7B, LD A,E, R400
  | ld_A_H  -- 7C, LD A,H, R400
  | ld_A_L  -- 7D, LD A,L, R400
  | ld_A_atHL  -- 7E, LD A,(HL), R402
  | ld_A_A  -- 7F, LD A,A, R400
  | add_A_B  -- 80, ADD A,B, R201
  | add_A_C  -- 81, ADD A,C, R201
  | add_A_D  -- 82, ADD A,D, R201
  | add_A_E  -- 83, ADD A,E, R201
  | add_A_H  -- 84, ADD A,H, R201
  | add_A_L  -- 85, ADD A,L, R201
  | add_A_atHL  -- 86, ADD A,(HL), R201
  | add_A_A  -- 87, ADD A,A, R201
  | adc_A_B  -- 88, ADC A,B, R202
  | adc_A_C  -- 89, ADC A,C, R202
  | adc_A_D  -- 8A, ADC A,D, R202
  | adc_A_E  -- 8B, ADC A,E, R202
  | adc_A_H  -- 8C, ADC A,H, R202
  | adc_A_L  -- 8D, ADC A,L, R202
  | adc_A_atHL  -- 8E, ADC A,(HL), R202
  | adc_A_A  -- 8F, ADC A,A, R202
  | sub_B  -- 90, SUB B, R203
  | sub_C  -- 91, SUB C, R203
  | sub_D  -- 92, SUB D, R203
  | sub_E  -- 93, SUB E, R203
  | sub_H  -- 94, SUB H, R203
  | sub_L  -- 95, SUB L, R203
  | sub_atHL  -- 96, SUB (HL), R203
  | sub_A  -- 97, SUB A, R203
  | sbc_A_B  -- 98, SBC A,B, R204
  | sbc_A_C  -- 99, SBC A,C, R204
  | sbc_A_D  -- 9A, SBC A,D, R204
  | sbc_A_E  -- 9B, SBC A,E, R204
  | sbc_A_H  -- 9C, SBC A,H, R204
  | sbc_A_L  -- 9D, SBC A,L, R204
  | sbc_A_atHL  -- 9E, SBC A,(HL), R204
  | sbc_A_A  -- 9F, SBC A,A, R204
  | and_B  -- A0, AND B, R205
  | and_C  -- A1, AND C, R205
  | and_D  -- A2, AND D, R205
  | and_E  -- A3, AND E, R205
  | and_H  -- A4, AND H, R205
  | and_L  -- A5, AND L, R205
  | and_atHL  -- A6, AND (HL), R205
  | and_A  -- A7, AND A, R205
  | xor_B  -- A8, XOR B, R206
  | xor_C  -- A9, XOR C, R206
  | xor_D  -- AA, XOR D, R206
  | xor_E  -- AB, XOR E, R206
  | xor_H  -- AC, XOR H, R206
  | xor_L  -- AD, XOR L, R206
  | xor_atHL  -- AE, XOR (HL), R206
  | xor_A  -- AF, XOR A, R206
  | or_B  -- B0, OR B, R207
  | or_C  -- B1, OR C, R207
  | or_D  -- B2, OR D, R207
  | or_E  -- B3, OR E, R207
  | or_H  -- B4, OR H, R207
  | or_L  -- B5, OR L, R207
  | or_atHL  -- B6, OR (HL), R207
  | or_A  -- B7, OR A, R207
  | cp_B  -- B8, CP B, R208
  | cp_C  -- B9, CP C, R208
  | cp_D  -- BA, CP D, R208
  | cp_E  -- BB, CP E, R208
  | cp_H  -- BC, CP H, R208
  | cp_L  -- BD, CP L, R208
  | cp_atHL  -- BE, CP (HL), R208
  | cp_A  -- BF, CP A, R208
  | ret_NZ  -- C0, RET NZ, R331
  | pop_BC  -- C1, POP BC, R431
  | push_BC  -- C5, PUSH BC, R430
  | rst_00  -- C7, RST 0x00, R333
  | ret_Z  -- C8, RET Z, R331
  | ret  -- C9, RET, R330
  | rst_08  -- CF, RST 0x08, R333
  | ret_NC  -- D0, RET NC, R331
  | pop_DE  -- D1, POP DE, R431
  | undef_D3  -- D3, (unimplemented), R501
  | push_DE  -- D5, PUSH DE, R430
  | rst_10  -- D7, RST 0x10, R333
  | ret_C  -- D8, RET C, R331
  | reti  -- D9, RETI, R332
  | undef_DB  -- DB, (unimplemented), R501
  | undef_DD  -- DD, (unimplemented), R501
  | rst_18  -- DF, RST 0x18, R333
  | pop_HL  -- E1, POP HL, R431
  | ld_atC_A  -- E2, LD (C),A, R418
  | undef_E3  -- E3, (unimplemented), R501
  | undef_E4  -- E4, (unimplemented), R501
  | push_HL  -- E5, PUSH HL, R430
  | rst_20  -- E7, RST 0x20, R333
  | jp_HL  -- E9, JP HL, R325
  | undef_EB  -- EB, (unimplemented), R501
  | undef_EC  -- EC, (unimplemented), R501
  | undef_ED  -- ED, (unimplemented), R501
  | rst_28  -- EF, RST 0x28, R333
  | pop_AF  -- F1, POP AF, R431
  | ld_A_atC  -- F2, LD A,(C), R419
  | di  -- F3, DI, R383
  | undef_F4  -- F4, (unimplemented), R501
  | push_AF  -- F5, PUSH AF, R430
  | rst_30  -- F7, RST 0x30, R333
  | ld_SP_HL  -- F9, LD SP,HL, R421
  | ei  -- FB, EI, R384
  | undef_FC  -- FC, (unimplemented), R501
  | undef_FD  -- FD, (unimplemented), R501
  | rst_38  -- FF, RST 0x38, R333
  | rlc_B  -- CB 00, RLC B, R291
  | rlc_C  -- CB 01, RLC C, R291
  | rlc_D  -- CB 02, RLC D, R291
  | rlc_E  -- CB 03, RLC E, R291
  | rlc_H  -- CB 04, RLC H, R291
  | rlc_L  -- CB 05, RLC L, R291
  | rlc_atHL  -- CB 06, RLC (HL), R291
  | rlc_A  -- CB 07, RLC A, R291
  | rrc_B  -- CB 08, RRC B, R292
  | rrc_C  -- CB 09, RRC C, R292
  | rrc_D  -- CB 0A, RRC D, R292
  | rrc_E  -- CB 0B, RRC E, R292
  | rrc_H  -- CB 0C, RRC H, R292
  | rrc_L  -- CB 0D, RRC L, R292
  | rrc_atHL  -- CB 0E, RRC (HL), R292
  | rrc_A  -- CB 0F, RRC A, R292
  | rl_B  -- CB 10, RL B, R293
  | rl_C  -- CB 11, RL C, R293
  | rl_D  -- CB 12, RL D, R293
  | rl_E  -- CB 13, RL E, R293
  | rl_H  -- CB 14, RL H, R293
  | rl_L  -- CB 15, RL L, R293
  | rl_atHL  -- CB 16, RL (HL), R293
  | rl_A  -- CB 17, RL A, R293
  | rr_B  -- CB 18, RR B, R294
  | rr_C  -- CB 19, RR C, R294
  | rr_D  -- CB 1A, RR D, R294
  | rr_E  -- CB 1B, RR E, R294
  | rr_H  -- CB 1C, RR H, R294
  | rr_L  -- CB 1D, RR L, R294
  | rr_atHL  -- CB 1E, RR (HL), R294
  | rr_A  -- CB 1F, RR A, R294
  | sla_B  -- CB 20, SLA B, R295
  | sla_C  -- CB 21, SLA C, R295
  | sla_D  -- CB 22, SLA D, R295
  | sla_E  -- CB 23, SLA E, R295
  | sla_H  -- CB 24, SLA H, R295
  | sla_L  -- CB 25, SLA L, R295
  | sla_atHL  -- CB 26, SLA (HL), R295
  | sla_A  -- CB 27, SLA A, R295
  | sra_B  -- CB 28, SRA B, R296
  | sra_C  -- CB 29, SRA C, R296
  | sra_D  -- CB 2A, SRA D, R296
  | sra_E  -- CB 2B, SRA E, R296
  | sra_H  -- CB 2C, SRA H, R296
  | sra_L  -- CB 2D, SRA L, R296
  | sra_atHL  -- CB 2E, SRA (HL), R296
  | sra_A  -- CB 2F, SRA A, R296
  | swap_B  -- CB 30, SWAP B, R297
  | swap_C  -- CB 31, SWAP C, R297
  | swap_D  -- CB 32, SWAP D, R297
  | swap_E  -- CB 33, SWAP E, R297
  | swap_H  -- CB 34, SWAP H, R297
  | swap_L  -- CB 35, SWAP L, R297
  | swap_atHL  -- CB 36, SWAP (HL), R297
  | swap_A  -- CB 37, SWAP A, R297
  | srl_B  -- CB 38, SRL B, R298
  | srl_C  -- CB 39, SRL C, R298
  | srl_D  -- CB 3A, SRL D, R298
  | srl_E  -- CB 3B, SRL E, R298
  | srl_H  -- CB 3C, SRL H, R298
  | srl_L  -- CB 3D, SRL L, R298
  | srl_atHL  -- CB 3E, SRL (HL), R298
  | srl_A  -- CB 3F, SRL A, R298
  | bit_0_B  -- CB 40, BIT 0,B, R300
  | bit_0_C  -- CB 41, BIT 0,C, R300
  | bit_0_D  -- CB 42, BIT 0,D, R300
  | bit_0_E  -- CB 43, BIT 0,E, R300
  | bit_0_H  -- CB 44, BIT 0,H, R300
  | bit_0_L  -- CB 45, BIT 0,L, R300
  | bit_0_atHL  -- CB 46, BIT 0,(HL), R300
  | bit_0_A  -- CB 47, BIT 0,A, R300
  | bit_1_B  -- CB 48, BIT 1,B, R300
  | bit_1_C  -- CB 49, BIT 1,C, R300
  | bit_1_D  -- CB 4A, BIT 1,D, R300
  | bit_1_E  -- CB 4B, BIT 1,E, R300
  | bit_1_H  -- CB 4C, BIT 1,H, R300
  | bit_1_L  -- CB 4D, BIT 1,L, R300
  | bit_1_atHL  -- CB 4E, BIT 1,(HL), R300
  | bit_1_A  -- CB 4F, BIT 1,A, R300
  | bit_2_B  -- CB 50, BIT 2,B, R300
  | bit_2_C  -- CB 51, BIT 2,C, R300
  | bit_2_D  -- CB 52, BIT 2,D, R300
  | bit_2_E  -- CB 53, BIT 2,E, R300
  | bit_2_H  -- CB 54, BIT 2,H, R300
  | bit_2_L  -- CB 55, BIT 2,L, R300
  | bit_2_atHL  -- CB 56, BIT 2,(HL), R300
  | bit_2_A  -- CB 57, BIT 2,A, R300
  | bit_3_B  -- CB 58, BIT 3,B, R300
  | bit_3_C  -- CB 59, BIT 3,C, R300
  | bit_3_D  -- CB 5A, BIT 3,D, R300
  | bit_3_E  -- CB 5B, BIT 3,E, R300
  | bit_3_H  -- CB 5C, BIT 3,H, R300
  | bit_3_L  -- CB 5D, BIT 3,L, R300
  | bit_3_atHL  -- CB 5E, BIT 3,(HL), R300
  | bit_3_A  -- CB 5F, BIT 3,A, R300
  | bit_4_B  -- CB 60, BIT 4,B, R300
  | bit_4_C  -- CB 61, BIT 4,C, R300
  | bit_4_D  -- CB 62, BIT 4,D, R300
  | bit_4_E  -- CB 63, BIT 4,E, R300
  | bit_4_H  -- CB 64, BIT 4,H, R300
  | bit_4_L  -- CB 65, BIT 4,L, R300
  | bit_4_atHL  -- CB 66, BIT 4,(HL), R300
  | bit_4_A  -- CB 67, BIT 4,A, R300
  | bit_5_B  -- CB 68, BIT 5,B, R300
  | bit_5_C  -- CB 69, BIT 5,C, R300
  | bit_5_D  -- CB 6A, BIT 5,D, R300
  | bit_5_E  -- CB 6B, BIT 5,E, R300
  | bit_5_H  -- CB 6C, BIT 5,H, R300
  | bit_5_L  -- CB 6D, BIT 5,L, R300
  | bit_5_atHL  -- CB 6E, BIT 5,(HL), R300
  | bit_5_A  -- CB 6F, BIT 5,A, R300
  | bit_6_B  -- CB 70, BIT 6,B, R300
  | bit_6_C  -- CB 71, BIT 6,C, R300
  | bit_6_D  -- CB 72, BIT 6,D, R300
  | bit_6_E  -- CB 73, BIT 6,E, R300
  | bit_6_H  -- CB 74, BIT 6,H, R300
  | bit_6_L  -- CB 75, BIT 6,L, R300
  | bit_6_atHL  -- CB 76, BIT 6,(HL), R300
  | bit_6_A  -- CB 77, BIT 6,A, R300
  | bit_7_B  -- CB 78, BIT 7,B, R300
  | bit_7_C  -- CB 79, BIT 7,C, R300
  | bit_7_D  -- CB 7A, BIT 7,D, R300
  | bit_7_E  -- CB 7B, BIT 7,E, R300
  | bit_7_H  -- CB 7C, BIT 7,H, R300
  | bit_7_L  -- CB 7D, BIT 7,L, R300
  | bit_7_atHL  -- CB 7E, BIT 7,(HL), R300
  | bit_7_A  -- CB 7F, BIT 7,A, R300
  | res_0_B  -- CB 80, RES 0,B, R301
  | res_0_C  -- CB 81, RES 0,C, R301
  | res_0_D  -- CB 82, RES 0,D, R301
  | res_0_E  -- CB 83, RES 0,E, R301
  | res_0_H  -- CB 84, RES 0,H, R301
  | res_0_L  -- CB 85, RES 0,L, R301
  | res_0_atHL  -- CB 86, RES 0,(HL), R301
  | res_0_A  -- CB 87, RES 0,A, R301
  | res_1_B  -- CB 88, RES 1,B, R301
  | res_1_C  -- CB 89, RES 1,C, R301
  | res_1_D  -- CB 8A, RES 1,D, R301
  | res_1_E  -- CB 8B, RES 1,E, R301
  | res_1_H  -- CB 8C, RES 1,H, R301
  | res_1_L  -- CB 8D, RES 1,L, R301
  | res_1_atHL  -- CB 8E, RES 1,(HL), R301
  | res_1_A  -- CB 8F, RES 1,A, R301
  | res_2_B  -- CB 90, RES 2,B, R301
  | res_2_C  -- CB 91, RES 2,C, R301
  | res_2_D  -- CB 92, RES 2,D, R301
  | res_2_E  -- CB 93, RES 2,E, R301
  | res_2_H  -- CB 94, RES 2,H, R301
  | res_2_L  -- CB 95, RES 2,L, R301
  | res_2_atHL  -- CB 96, RES 2,(HL), R301
  | res_2_A  -- CB 97, RES 2,A, R301
  | res_3_B  -- CB 98, RES 3,B, R301
  | res_3_C  -- CB 99, RES 3,C, R301
  | res_3_D  -- CB 9A, RES 3,D, R301
  | res_3_E  -- CB 9B, RES 3,E, R301
  | res_3_H  -- CB 9C, RES 3,H, R301
  | res_3_L  -- CB 9D, RES 3,L, R301
  | res_3_atHL  -- CB 9E, RES 3,(HL), R301
  | res_3_A  -- CB 9F, RES 3,A, R301
  | res_4_B  -- CB A0, RES 4,B, R301
  | res_4_C  -- CB A1, RES 4,C, R301
  | res_4_D  -- CB A2, RES 4,D, R301
  | res_4_E  -- CB A3, RES 4,E, R301
  | res_4_H  -- CB A4, RES 4,H, R301
  | res_4_L  -- CB A5, RES 4,L, R301
  | res_4_atHL  -- CB A6, RES 4,(HL), R301
  | res_4_A  -- CB A7, RES 4,A, R301
  | res_5_B  -- CB A8, RES 5,B, R301
  | res_5_C  -- CB A9, RES 5,C, R301
  | res_5_D  -- CB AA, RES 5,D, R301
  | res_5_E  -- CB AB, RES 5,E, R301
  | res_5_H  -- CB AC, RES 5,H, R301
  | res_5_L  -- CB AD, RES 5,L, R301
  | res_5_atHL  -- CB AE, RES 5,(HL), R301
  | res_5_A  -- CB AF, RES 5,A, R301
  | res_6_B  -- CB B0, RES 6,B, R301
  | res_6_C  -- CB B1, RES 6,C, R301
  | res_6_D  -- CB B2, RES 6,D, R301
  | res_6_E  -- CB B3, RES 6,E, R301
  | res_6_H  -- CB B4, RES 6,H, R301
  | res_6_L  -- CB B5, RES 6,L, R301
  | res_6_atHL  -- CB B6, RES 6,(HL), R301
  | res_6_A  -- CB B7, RES 6,A, R301
  | res_7_B  -- CB B8, RES 7,B, R301
  | res_7_C  -- CB B9, RES 7,C, R301
  | res_7_D  -- CB BA, RES 7,D, R301
  | res_7_E  -- CB BB, RES 7,E, R301
  | res_7_H  -- CB BC, RES 7,H, R301
  | res_7_L  -- CB BD, RES 7,L, R301
  | res_7_atHL  -- CB BE, RES 7,(HL), R301
  | res_7_A  -- CB BF, RES 7,A, R301
  | set_0_B  -- CB C0, SET 0,B, R302
  | set_0_C  -- CB C1, SET 0,C, R302
  | set_0_D  -- CB C2, SET 0,D, R302
  | set_0_E  -- CB C3, SET 0,E, R302
  | set_0_H  -- CB C4, SET 0,H, R302
  | set_0_L  -- CB C5, SET 0,L, R302
  | set_0_atHL  -- CB C6, SET 0,(HL), R302
  | set_0_A  -- CB C7, SET 0,A, R302
  | set_1_B  -- CB C8, SET 1,B, R302
  | set_1_C  -- CB C9, SET 1,C, R302
  | set_1_D  -- CB CA, SET 1,D, R302
  | set_1_E  -- CB CB, SET 1,E, R302
  | set_1_H  -- CB CC, SET 1,H, R302
  | set_1_L  -- CB CD, SET 1,L, R302
  | set_1_atHL  -- CB CE, SET 1,(HL), R302
  | set_1_A  -- CB CF, SET 1,A, R302
  | set_2_B  -- CB D0, SET 2,B, R302
  | set_2_C  -- CB D1, SET 2,C, R302
  | set_2_D  -- CB D2, SET 2,D, R302
  | set_2_E  -- CB D3, SET 2,E, R302
  | set_2_H  -- CB D4, SET 2,H, R302
  | set_2_L  -- CB D5, SET 2,L, R302
  | set_2_atHL  -- CB D6, SET 2,(HL), R302
  | set_2_A  -- CB D7, SET 2,A, R302
  | set_3_B  -- CB D8, SET 3,B, R302
  | set_3_C  -- CB D9, SET 3,C, R302
  | set_3_D  -- CB DA, SET 3,D, R302
  | set_3_E  -- CB DB, SET 3,E, R302
  | set_3_H  -- CB DC, SET 3,H, R302
  | set_3_L  -- CB DD, SET 3,L, R302
  | set_3_atHL  -- CB DE, SET 3,(HL), R302
  | set_3_A  -- CB DF, SET 3,A, R302
  | set_4_B  -- CB E0, SET 4,B, R302
  | set_4_C  -- CB E1, SET 4,C, R302
  | set_4_D  -- CB E2, SET 4,D, R302
  | set_4_E  -- CB E3, SET 4,E, R302
  | set_4_H  -- CB E4, SET 4,H, R302
  | set_4_L  -- CB E5, SET 4,L, R302
  | set_4_atHL  -- CB E6, SET 4,(HL), R302
  | set_4_A  -- CB E7, SET 4,A, R302
  | set_5_B  -- CB E8, SET 5,B, R302
  | set_5_C  -- CB E9, SET 5,C, R302
  | set_5_D  -- CB EA, SET 5,D, R302
  | set_5_E  -- CB EB, SET 5,E, R302
  | set_5_H  -- CB EC, SET 5,H, R302
  | set_5_L  -- CB ED, SET 5,L, R302
  | set_5_atHL  -- CB EE, SET 5,(HL), R302
  | set_5_A  -- CB EF, SET 5,A, R302
  | set_6_B  -- CB F0, SET 6,B, R302
  | set_6_C  -- CB F1, SET 6,C, R302
  | set_6_D  -- CB F2, SET 6,D, R302
  | set_6_E  -- CB F3, SET 6,E, R302
  | set_6_H  -- CB F4, SET 6,H, R302
  | set_6_L  -- CB F5, SET 6,L, R302
  | set_6_atHL  -- CB F6, SET 6,(HL), R302
  | set_6_A  -- CB F7, SET 6,A, R302
  | set_7_B  -- CB F8, SET 7,B, R302
  | set_7_C  -- CB F9, SET 7,C, R302
  | set_7_D  -- CB FA, SET 7,D, R302
  | set_7_E  -- CB FB, SET 7,E, R302
  | set_7_H  -- CB FC, SET 7,H, R302
  | set_7_L  -- CB FD, SET 7,L, R302
  | set_7_atHL  -- CB FE, SET 7,(HL), R302
  | set_7_A  -- CB FF, SET 7,A, R302
deriving DecidableEq, Repr

end Sys2Proof
end

