-- ==== Sys2Proof/Decode.lean ====
section
/-! DEFINITION. The decoder, total on any bytes (30_encoding.md), and after it the encoder. -/

namespace Sys2Proof

/-- A hexadecimal digit of an opcode byte: the row or the column of the tables of R112 and R115. -/
inductive Nibble where
  | x0 | x1 | x2 | x3 | x4 | x5 | x6 | x7 | x8 | x9 | xA | xB | xC | xD | xE | xF
deriving DecidableEq, Repr

/-- The digit of a value already below 16. -/
def nibbleOfNat : Nat → Nibble
  | 0 => .x0 | 1 => .x1 | 2 => .x2 | 3 => .x3 | 4 => .x4 | 5 => .x5 | 6 => .x6 | 7 => .x7
  | 8 => .x8 | 9 => .x9 | 10 => .xA | 11 => .xB | 12 => .xC | 13 => .xD | 14 => .xE | _ => .xF

/-- The row of an opcode byte. -/
def hiNibble (op : Byte) : Nibble := nibbleOfNat (op.toNat / 16)

/-- The column of an opcode byte. -/
def loNibble (op : Byte) : Nibble := nibbleOfNat (op.toNat % 16)

/-- The second byte of STOP, where `P_STOP_LEN` has one (R382). -/
def StopLen.operand : StopLen → Byte → Option Byte
  | .one, _ => none
  | .two, b => some b

/-! ### The two tables. `b1` is the byte after the opcode, `nn` the 16-bit immediate after it. -/

/-- Row 0x of the base table (R112). -/
def baseRow0 (lo : Nibble) (b1 : Byte) (nn : Word) : Instr :=
  match lo with
  | .x0 => .nop
  | .x1 => .ld_BC_nn nn
  | .x2 => .ld_atBC_A
  | .x3 => .inc_BC
  | .x4 => .inc_B
  | .x5 => .dec_B
  | .x6 => .ld_B_n b1
  | .x7 => .rlca
  | .x8 => .ld_atnn_SP nn
  | .x9 => .add_HL_BC
  | .xA => .ld_A_atBC
  | .xB => .dec_BC
  | .xC => .inc_C
  | .xD => .dec_C
  | .xE => .ld_C_n b1
  | .xF => .rrca

/-- Row 1x of the base table (R112). -/
def baseRow1 (stopLen : StopLen) (lo : Nibble) (b1 : Byte) (nn : Word) : Instr :=
  match lo with
  | .x0 => .stop (stopLen.operand b1)
  | .x1 => .ld_DE_nn nn
  | .x2 => .ld_atDE_A
  | .x3 => .inc_DE
  | .x4 => .inc_D
  | .x5 => .dec_D
  | .x6 => .ld_D_n b1
  | .x7 => .rla
  | .x8 => .jr_e b1
  | .x9 => .add_HL_DE
  | .xA => .ld_A_atDE
  | .xB => .dec_DE
  | .xC => .inc_E
  | .xD => .dec_E
  | .xE => .ld_E_n b1
  | .xF => .rra

/-- Row 2x of the base table (R112). -/
def baseRow2 (lo : Nibble) (b1 : Byte) (nn : Word) : Instr :=
  match lo with
  | .x0 => .jr_NZ_e b1
  | .x1 => .ld_HL_nn nn
  | .x2 => .ld_atHLinc_A
  | .x3 => .inc_HL
  | .x4 => .inc_H
  | .x5 => .dec_H
  | .x6 => .ld_H_n b1
  | .x7 => .daa
  | .x8 => .jr_Z_e b1
  | .x9 => .add_HL_HL
  | .xA => .ld_A_atHLinc
  | .xB => .dec_HL
  | .xC => .inc_L
  | .xD => .dec_L
  | .xE => .ld_L_n b1
  | .xF => .cpl

/-- Row 3x of the base table (R112). -/
def baseRow3 (lo : Nibble) (b1 : Byte) (nn : Word) : Instr :=
  match lo with
  | .x0 => .jr_NC_e b1
  | .x1 => .ld_SP_nn nn
  | .x2 => .ld_atHLdec_A
  | .x3 => .inc_SP
  | .x4 => .inc_atHL
  | .x5 => .dec_atHL
  | .x6 => .ld_atHL_n b1
  | .x7 => .scf
  | .x8 => .jr_C_e b1
  | .x9 => .add_HL_SP
  | .xA => .ld_A_atHLdec
  | .xB => .dec_SP
  | .xC => .inc_A
  | .xD => .dec_A
  | .xE => .ld_A_n b1
  | .xF => .ccf

/-- Row 4x of the base table (R112). -/
def baseRow4 (lo : Nibble) (_b1 : Byte) (_nn : Word) : Instr :=
  match lo with
  | .x0 => .ld_B_B
  | .x1 => .ld_B_C
  | .x2 => .ld_B_D
  | .x3 => .ld_B_E
  | .x4 => .ld_B_H
  | .x5 => .ld_B_L
  | .x6 => .ld_B_atHL
  | .x7 => .ld_B_A
  | .x8 => .ld_C_B
  | .x9 => .ld_C_C
  | .xA => .ld_C_D
  | .xB => .ld_C_E
  | .xC => .ld_C_H
  | .xD => .ld_C_L
  | .xE => .ld_C_atHL
  | .xF => .ld_C_A

/-- Row 5x of the base table (R112). -/
def baseRow5 (lo : Nibble) (_b1 : Byte) (_nn : Word) : Instr :=
  match lo with
  | .x0 => .ld_D_B
  | .x1 => .ld_D_C
  | .x2 => .ld_D_D
  | .x3 => .ld_D_E
  | .x4 => .ld_D_H
  | .x5 => .ld_D_L
  | .x6 => .ld_D_atHL
  | .x7 => .ld_D_A
  | .x8 => .ld_E_B
  | .x9 => .ld_E_C
  | .xA => .ld_E_D
  | .xB => .ld_E_E
  | .xC => .ld_E_H
  | .xD => .ld_E_L
  | .xE => .ld_E_atHL
  | .xF => .ld_E_A

/-- Row 6x of the base table (R112). -/
def baseRow6 (lo : Nibble) (_b1 : Byte) (_nn : Word) : Instr :=
  match lo with
  | .x0 => .ld_H_B
  | .x1 => .ld_H_C
  | .x2 => .ld_H_D
  | .x3 => .ld_H_E
  | .x4 => .ld_H_H
  | .x5 => .ld_H_L
  | .x6 => .ld_H_atHL
  | .x7 => .ld_H_A
  | .x8 => .ld_L_B
  | .x9 => .ld_L_C
  | .xA => .ld_L_D
  | .xB => .ld_L_E
  | .xC => .ld_L_H
  | .xD => .ld_L_L
  | .xE => .ld_L_atHL
  | .xF => .ld_L_A

/-- Row 7x of the base table (R112). -/
def baseRow7 (lo : Nibble) (_b1 : Byte) (_nn : Word) : Instr :=
  match lo with
  | .x0 => .ld_atHL_B
  | .x1 => .ld_atHL_C
  | .x2 => .ld_atHL_D
  | .x3 => .ld_atHL_E
  | .x4 => .ld_atHL_H
  | .x5 => .ld_atHL_L
  | .x6 => .halt
  | .x7 => .ld_atHL_A
  | .x8 => .ld_A_B
  | .x9 => .ld_A_C
  | .xA => .ld_A_D
  | .xB => .ld_A_E
  | .xC => .ld_A_H
  | .xD => .ld_A_L
  | .xE => .ld_A_atHL
  | .xF => .ld_A_A

/-- Row 8x of the base table (R112). -/
def baseRow8 (lo : Nibble) (_b1 : Byte) (_nn : Word) : Instr :=
  match lo with
  | .x0 => .add_A_B
  | .x1 => .add_A_C
  | .x2 => .add_A_D
  | .x3 => .add_A_E
  | .x4 => .add_A_H
  | .x5 => .add_A_L
  | .x6 => .add_A_atHL
  | .x7 => .add_A_A
  | .x8 => .adc_A_B
  | .x9 => .adc_A_C
  | .xA => .adc_A_D
  | .xB => .adc_A_E
  | .xC => .adc_A_H
  | .xD => .adc_A_L
  | .xE => .adc_A_atHL
  | .xF => .adc_A_A

/-- Row 9x of the base table (R112). -/
def baseRow9 (lo : Nibble) (_b1 : Byte) (_nn : Word) : Instr :=
  match lo with
  | .x0 => .sub_B
  | .x1 => .sub_C
  | .x2 => .sub_D
  | .x3 => .sub_E
  | .x4 => .sub_H
  | .x5 => .sub_L
  | .x6 => .sub_atHL
  | .x7 => .sub_A
  | .x8 => .sbc_A_B
  | .x9 => .sbc_A_C
  | .xA => .sbc_A_D
  | .xB => .sbc_A_E
  | .xC => .sbc_A_H
  | .xD => .sbc_A_L
  | .xE => .sbc_A_atHL
  | .xF => .sbc_A_A

/-- Row Ax of the base table (R112). -/
def baseRowA (lo : Nibble) (_b1 : Byte) (_nn : Word) : Instr :=
  match lo with
  | .x0 => .and_B
  | .x1 => .and_C
  | .x2 => .and_D
  | .x3 => .and_E
  | .x4 => .and_H
  | .x5 => .and_L
  | .x6 => .and_atHL
  | .x7 => .and_A
  | .x8 => .xor_B
  | .x9 => .xor_C
  | .xA => .xor_D
  | .xB => .xor_E
  | .xC => .xor_H
  | .xD => .xor_L
  | .xE => .xor_atHL
  | .xF => .xor_A

/-- Row Bx of the base table (R112). -/
def baseRowB (lo : Nibble) (_b1 : Byte) (_nn : Word) : Instr :=
  match lo with
  | .x0 => .or_B
  | .x1 => .or_C
  | .x2 => .or_D
  | .x3 => .or_E
  | .x4 => .or_H
  | .x5 => .or_L
  | .x6 => .or_atHL
  | .x7 => .or_A
  | .x8 => .cp_B
  | .x9 => .cp_C
  | .xA => .cp_D
  | .xB => .cp_E
  | .xC => .cp_H
  | .xD => .cp_L
  | .xE => .cp_atHL
  | .xF => .cp_A

/-- Row Cx of the base table (R112). -/
def baseRowC (lo : Nibble) (b1 : Byte) (nn : Word) : Instr :=
  match lo with
  | .x0 => .ret_NZ
  | .x1 => .pop_BC
  | .x2 => .jp_NZ_nn nn
  | .x3 => .jp_nn nn
  | .x4 => .call_NZ_nn nn
  | .x5 => .push_BC
  | .x6 => .add_A_n b1
  | .x7 => .rst_00
  | .x8 => .ret_Z
  | .x9 => .ret
  | .xA => .jp_Z_nn nn
  | .xB => .prefixCB b1
  | .xC => .call_Z_nn nn
  | .xD => .call_nn nn
  | .xE => .adc_A_n b1
  | .xF => .rst_08

/-- Row Dx of the base table (R112). -/
def baseRowD (lo : Nibble) (b1 : Byte) (nn : Word) : Instr :=
  match lo with
  | .x0 => .ret_NC
  | .x1 => .pop_DE
  | .x2 => .jp_NC_nn nn
  | .x3 => .undef_D3
  | .x4 => .call_NC_nn nn
  | .x5 => .push_DE
  | .x6 => .sub_n b1
  | .x7 => .rst_10
  | .x8 => .ret_C
  | .x9 => .reti
  | .xA => .jp_C_nn nn
  | .xB => .undef_DB
  | .xC => .call_C_nn nn
  | .xD => .undef_DD
  | .xE => .sbc_A_n b1
  | .xF => .rst_18

/-- Row Ex of the base table (R112). -/
def baseRowE (lo : Nibble) (b1 : Byte) (nn : Word) : Instr :=
  match lo with
  | .x0 => .ldh_atn_A b1
  | .x1 => .pop_HL
  | .x2 => .ld_atC_A
  | .x3 => .undef_E3
  | .x4 => .undef_E4
  | .x5 => .push_HL
  | .x6 => .and_n b1
  | .x7 => .rst_20
  | .x8 => .add_SP_e b1
  | .x9 => .jp_HL
  | .xA => .ld_atnn_A nn
  | .xB => .undef_EB
  | .xC => .undef_EC
  | .xD => .undef_ED
  | .xE => .xor_n b1
  | .xF => .rst_28

/-- Row Fx of the base table (R112). -/
def baseRowF (lo : Nibble) (b1 : Byte) (nn : Word) : Instr :=
  match lo with
  | .x0 => .ldh_A_atn b1
  | .x1 => .pop_AF
  | .x2 => .ld_A_atC
  | .x3 => .di
  | .x4 => .undef_F4
  | .x5 => .push_AF
  | .x6 => .or_n b1
  | .x7 => .rst_30
  | .x8 => .ld_HL_SPe b1
  | .x9 => .ld_SP_HL
  | .xA => .ld_A_atnn nn
  | .xB => .ei
  | .xC => .undef_FC
  | .xD => .undef_FD
  | .xE => .cp_n b1
  | .xF => .rst_38

/-- Row 0x of the extended table (R115). -/
def cbRow0 (lo : Nibble) : Instr :=
  match lo with
  | .x0 => .rlc_B
  | .x1 => .rlc_C
  | .x2 => .rlc_D
  | .x3 => .rlc_E
  | .x4 => .rlc_H
  | .x5 => .rlc_L
  | .x6 => .rlc_atHL
  | .x7 => .rlc_A
  | .x8 => .rrc_B
  | .x9 => .rrc_C
  | .xA => .rrc_D
  | .xB => .rrc_E
  | .xC => .rrc_H
  | .xD => .rrc_L
  | .xE => .rrc_atHL
  | .xF => .rrc_A

/-- Row 1x of the extended table (R115). -/
def cbRow1 (lo : Nibble) : Instr :=
  match lo with
  | .x0 => .rl_B
  | .x1 => .rl_C
  | .x2 => .rl_D
  | .x3 => .rl_E
  | .x4 => .rl_H
  | .x5 => .rl_L
  | .x6 => .rl_atHL
  | .x7 => .rl_A
  | .x8 => .rr_B
  | .x9 => .rr_C
  | .xA => .rr_D
  | .xB => .rr_E
  | .xC => .rr_H
  | .xD => .rr_L
  | .xE => .rr_atHL
  | .xF => .rr_A

/-- Row 2x of the extended table (R115). -/
def cbRow2 (lo : Nibble) : Instr :=
  match lo with
  | .x0 => .sla_B
  | .x1 => .sla_C
  | .x2 => .sla_D
  | .x3 => .sla_E
  | .x4 => .sla_H
  | .x5 => .sla_L
  | .x6 => .sla_atHL
  | .x7 => .sla_A
  | .x8 => .sra_B
  | .x9 => .sra_C
  | .xA => .sra_D
  | .xB => .sra_E
  | .xC => .sra_H
  | .xD => .sra_L
  | .xE => .sra_atHL
  | .xF => .sra_A

/-- Row 3x of the extended table (R115). -/
def cbRow3 (lo : Nibble) : Instr :=
  match lo with
  | .x0 => .swap_B
  | .x1 => .swap_C
  | .x2 => .swap_D
  | .x3 => .swap_E
  | .x4 => .swap_H
  | .x5 => .swap_L
  | .x6 => .swap_atHL
  | .x7 => .swap_A
  | .x8 => .srl_B
  | .x9 => .srl_C
  | .xA => .srl_D
  | .xB => .srl_E
  | .xC => .srl_H
  | .xD => .srl_L
  | .xE => .srl_atHL
  | .xF => .srl_A

/-- Row 4x of the extended table (R115). -/
def cbRow4 (lo : Nibble) : Instr :=
  match lo with
  | .x0 => .bit_0_B
  | .x1 => .bit_0_C
  | .x2 => .bit_0_D
  | .x3 => .bit_0_E
  | .x4 => .bit_0_H
  | .x5 => .bit_0_L
  | .x6 => .bit_0_atHL
  | .x7 => .bit_0_A
  | .x8 => .bit_1_B
  | .x9 => .bit_1_C
  | .xA => .bit_1_D
  | .xB => .bit_1_E
  | .xC => .bit_1_H
  | .xD => .bit_1_L
  | .xE => .bit_1_atHL
  | .xF => .bit_1_A

/-- Row 5x of the extended table (R115). -/
def cbRow5 (lo : Nibble) : Instr :=
  match lo with
  | .x0 => .bit_2_B
  | .x1 => .bit_2_C
  | .x2 => .bit_2_D
  | .x3 => .bit_2_E
  | .x4 => .bit_2_H
  | .x5 => .bit_2_L
  | .x6 => .bit_2_atHL
  | .x7 => .bit_2_A
  | .x8 => .bit_3_B
  | .x9 => .bit_3_C
  | .xA => .bit_3_D
  | .xB => .bit_3_E
  | .xC => .bit_3_H
  | .xD => .bit_3_L
  | .xE => .bit_3_atHL
  | .xF => .bit_3_A

/-- Row 6x of the extended table (R115). -/
def cbRow6 (lo : Nibble) : Instr :=
  match lo with
  | .x0 => .bit_4_B
  | .x1 => .bit_4_C
  | .x2 => .bit_4_D
  | .x3 => .bit_4_E
  | .x4 => .bit_4_H
  | .x5 => .bit_4_L
  | .x6 => .bit_4_atHL
  | .x7 => .bit_4_A
  | .x8 => .bit_5_B
  | .x9 => .bit_5_C
  | .xA => .bit_5_D
  | .xB => .bit_5_E
  | .xC => .bit_5_H
  | .xD => .bit_5_L
  | .xE => .bit_5_atHL
  | .xF => .bit_5_A

/-- Row 7x of the extended table (R115). -/
def cbRow7 (lo : Nibble) : Instr :=
  match lo with
  | .x0 => .bit_6_B
  | .x1 => .bit_6_C
  | .x2 => .bit_6_D
  | .x3 => .bit_6_E
  | .x4 => .bit_6_H
  | .x5 => .bit_6_L
  | .x6 => .bit_6_atHL
  | .x7 => .bit_6_A
  | .x8 => .bit_7_B
  | .x9 => .bit_7_C
  | .xA => .bit_7_D
  | .xB => .bit_7_E
  | .xC => .bit_7_H
  | .xD => .bit_7_L
  | .xE => .bit_7_atHL
  | .xF => .bit_7_A

/-- Row 8x of the extended table (R115). -/
def cbRow8 (lo : Nibble) : Instr :=
  match lo with
  | .x0 => .res_0_B
  | .x1 => .res_0_C
  | .x2 => .res_0_D
  | .x3 => .res_0_E
  | .x4 => .res_0_H
  | .x5 => .res_0_L
  | .x6 => .res_0_atHL
  | .x7 => .res_0_A
  | .x8 => .res_1_B
  | .x9 => .res_1_C
  | .xA => .res_1_D
  | .xB => .res_1_E
  | .xC => .res_1_H
  | .xD => .res_1_L
  | .xE => .res_1_atHL
  | .xF => .res_1_A

/-- Row 9x of the extended table (R115). -/
def cbRow9 (lo : Nibble) : Instr :=
  match lo with
  | .x0 => .res_2_B
  | .x1 => .res_2_C
  | .x2 => .res_2_D
  | .x3 => .res_2_E
  | .x4 => .res_2_H
  | .x5 => .res_2_L
  | .x6 => .res_2_atHL
  | .x7 => .res_2_A
  | .x8 => .res_3_B
  | .x9 => .res_3_C
  | .xA => .res_3_D
  | .xB => .res_3_E
  | .xC => .res_3_H
  | .xD => .res_3_L
  | .xE => .res_3_atHL
  | .xF => .res_3_A

/-- Row Ax of the extended table (R115). -/
def cbRowA (lo : Nibble) : Instr :=
  match lo with
  | .x0 => .res_4_B
  | .x1 => .res_4_C
  | .x2 => .res_4_D
  | .x3 => .res_4_E
  | .x4 => .res_4_H
  | .x5 => .res_4_L
  | .x6 => .res_4_atHL
  | .x7 => .res_4_A
  | .x8 => .res_5_B
  | .x9 => .res_5_C
  | .xA => .res_5_D
  | .xB => .res_5_E
  | .xC => .res_5_H
  | .xD => .res_5_L
  | .xE => .res_5_atHL
  | .xF => .res_5_A

/-- Row Bx of the extended table (R115). -/
def cbRowB (lo : Nibble) : Instr :=
  match lo with
  | .x0 => .res_6_B
  | .x1 => .res_6_C
  | .x2 => .res_6_D
  | .x3 => .res_6_E
  | .x4 => .res_6_H
  | .x5 => .res_6_L
  | .x6 => .res_6_atHL
  | .x7 => .res_6_A
  | .x8 => .res_7_B
  | .x9 => .res_7_C
  | .xA => .res_7_D
  | .xB => .res_7_E
  | .xC => .res_7_H
  | .xD => .res_7_L
  | .xE => .res_7_atHL
  | .xF => .res_7_A

/-- Row Cx of the extended table (R115). -/
def cbRowC (lo : Nibble) : Instr :=
  match lo with
  | .x0 => .set_0_B
  | .x1 => .set_0_C
  | .x2 => .set_0_D
  | .x3 => .set_0_E
  | .x4 => .set_0_H
  | .x5 => .set_0_L
  | .x6 => .set_0_atHL
  | .x7 => .set_0_A
  | .x8 => .set_1_B
  | .x9 => .set_1_C
  | .xA => .set_1_D
  | .xB => .set_1_E
  | .xC => .set_1_H
  | .xD => .set_1_L
  | .xE => .set_1_atHL
  | .xF => .set_1_A

/-- Row Dx of the extended table (R115). -/
def cbRowD (lo : Nibble) : Instr :=
  match lo with
  | .x0 => .set_2_B
  | .x1 => .set_2_C
  | .x2 => .set_2_D
  | .x3 => .set_2_E
  | .x4 => .set_2_H
  | .x5 => .set_2_L
  | .x6 => .set_2_atHL
  | .x7 => .set_2_A
  | .x8 => .set_3_B
  | .x9 => .set_3_C
  | .xA => .set_3_D
  | .xB => .set_3_E
  | .xC => .set_3_H
  | .xD => .set_3_L
  | .xE => .set_3_atHL
  | .xF => .set_3_A

/-- Row Ex of the extended table (R115). -/
def cbRowE (lo : Nibble) : Instr :=
  match lo with
  | .x0 => .set_4_B
  | .x1 => .set_4_C
  | .x2 => .set_4_D
  | .x3 => .set_4_E
  | .x4 => .set_4_H
  | .x5 => .set_4_L
  | .x6 => .set_4_atHL
  | .x7 => .set_4_A
  | .x8 => .set_5_B
  | .x9 => .set_5_C
  | .xA => .set_5_D
  | .xB => .set_5_E
  | .xC => .set_5_H
  | .xD => .set_5_L
  | .xE => .set_5_atHL
  | .xF => .set_5_A

/-- Row Fx of the extended table (R115). -/
def cbRowF (lo : Nibble) : Instr :=
  match lo with
  | .x0 => .set_6_B
  | .x1 => .set_6_C
  | .x2 => .set_6_D
  | .x3 => .set_6_E
  | .x4 => .set_6_H
  | .x5 => .set_6_L
  | .x6 => .set_6_atHL
  | .x7 => .set_6_A
  | .x8 => .set_7_B
  | .x9 => .set_7_C
  | .xA => .set_7_D
  | .xB => .set_7_E
  | .xC => .set_7_H
  | .xD => .set_7_L
  | .xE => .set_7_atHL
  | .xF => .set_7_A

/-- `decodeBase` (R363): the base table by the two nibbles of the opcode byte. The byte 0xCB gives its own
row, `prefixCB`. -/
def decodeBase (stopLen : StopLen) (op b1 : Byte) (nn : Word) : Instr :=
  match hiNibble op with
  | .x0 => baseRow0 (loNibble op) b1 nn
  | .x1 => baseRow1 stopLen (loNibble op) b1 nn
  | .x2 => baseRow2 (loNibble op) b1 nn
  | .x3 => baseRow3 (loNibble op) b1 nn
  | .x4 => baseRow4 (loNibble op) b1 nn
  | .x5 => baseRow5 (loNibble op) b1 nn
  | .x6 => baseRow6 (loNibble op) b1 nn
  | .x7 => baseRow7 (loNibble op) b1 nn
  | .x8 => baseRow8 (loNibble op) b1 nn
  | .x9 => baseRow9 (loNibble op) b1 nn
  | .xA => baseRowA (loNibble op) b1 nn
  | .xB => baseRowB (loNibble op) b1 nn
  | .xC => baseRowC (loNibble op) b1 nn
  | .xD => baseRowD (loNibble op) b1 nn
  | .xE => baseRowE (loNibble op) b1 nn
  | .xF => baseRowF (loNibble op) b1 nn

/-- `decodeCB` (R363, R115): total. -/
def decodeCB (op2 : Byte) : Instr :=
  match hiNibble op2 with
  | .x0 => cbRow0 (loNibble op2)
  | .x1 => cbRow1 (loNibble op2)
  | .x2 => cbRow2 (loNibble op2)
  | .x3 => cbRow3 (loNibble op2)
  | .x4 => cbRow4 (loNibble op2)
  | .x5 => cbRow5 (loNibble op2)
  | .x6 => cbRow6 (loNibble op2)
  | .x7 => cbRow7 (loNibble op2)
  | .x8 => cbRow8 (loNibble op2)
  | .x9 => cbRow9 (loNibble op2)
  | .xA => cbRowA (loNibble op2)
  | .xB => cbRowB (loNibble op2)
  | .xC => cbRowC (loNibble op2)
  | .xD => cbRowD (loNibble op2)
  | .xE => cbRowE (loNibble op2)
  | .xF => cbRowF (loNibble op2)

/-- The instruction whose bytes are `op`, `b1`, `b2` (R101, R363): the prefix byte selects the extended
table for exactly one byte (R114). The bytes after the instruction's own are not used. -/
def decodeInstr (stopLen : StopLen) (op b1 b2 : Byte) : Instr :=
  if op = 0xCB then decodeCB b1 else decodeBase stopLen op b1 (Machine.joinBytes b2 b1)

/-- The opcodes of the three-byte instructions (`base3` of R100). -/
def threeByteOpcodes : List Byte :=
  [0x01, 0x08, 0x11, 0x21, 0x31, 0xC2, 0xC3, 0xC4, 0xCA, 0xCC, 0xCD, 0xD2, 0xD4, 0xDA, 0xDC, 0xEA, 0xFA]

/-- The opcodes of the two-byte instructions (`base2-n`, `base2-e` and `cb` of R100). -/
def twoByteOpcodes : List Byte :=
  [0x06, 0x0E, 0x16, 0x1E, 0x26, 0x2E, 0x36, 0x3E, 0x18, 0x20, 0x28, 0x30, 0x38,
   0xC6, 0xCE, 0xD6, 0xDE, 0xE6, 0xEE, 0xF6, 0xFE, 0xE0, 0xE8, 0xF0, 0xF8, 0xCB]

/-- The length from the first byte alone (R118); that of STOP, 0x10, is `P_STOP_LEN`. -/
def lengthOf (stopLen : StopLen) (op : Byte) : Nat :=
  if op = 0x10 then stopLen.bytes
  else if op ∈ threeByteOpcodes then 3 else if op ∈ twoByteOpcodes then 2 else 1

/-- The bytes of the base table with no entry (R113, R501). -/
def unimplementedBytes : List Byte :=
  [0xD3, 0xDB, 0xDD, 0xE3, 0xE4, 0xEB, 0xEC, 0xED, 0xF4, 0xFC, 0xFD]

/-- Why a list of bytes holds no instruction. Memory never runs out (R61), so a fetch meets neither. -/
inductive DecodeError where
  /-- There is no byte. -/
  | noBytes
  /-- The opcode byte is there, but fewer bytes than the instruction's length follow. -/
  | truncated (op : Byte) (length : Nat)
deriving DecidableEq, Repr

/-- The first instruction of a list of bytes, and the bytes after it. -/
def decode (stopLen : StopLen) : List Byte → Except DecodeError (Instr × List Byte)
  | [] => .error .noBytes
  | op :: rest =>
    let n := lengthOf stopLen op
    if rest.length + 1 < n then .error (.truncated op n)
    else .ok (decodeInstr stopLen op (rest.getD 0 0) (rest.getD 1 0), rest.drop (n - 1))

/-! ### The encoder -/

/-- The bytes of an instruction, the opcode at the lowest address (R100, R104, R112, R115). STOP has
its second byte where the term has one. -/
def encode : Instr → List Byte
  | .nop => [0x00]
  | .ld_BC_nn nn => [0x01, Machine.loByte nn, Machine.hiByte nn]
  | .ld_atBC_A => [0x02]
  | .inc_BC => [0x03]
  | .inc_B => [0x04]
  | .dec_B => [0x05]
  | .ld_B_n n => [0x06, n]
  | .rlca => [0x07]
  | .ld_atnn_SP nn => [0x08, Machine.loByte nn, Machine.hiByte nn]
  | .add_HL_BC => [0x09]
  | .ld_A_atBC => [0x0A]
  | .dec_BC => [0x0B]
  | .inc_C => [0x0C]
  | .dec_C => [0x0D]
  | .ld_C_n n => [0x0E, n]
  | .rrca => [0x0F]
  | .stop b => 0x10 :: b.toList
  | .ld_DE_nn nn => [0x11, Machine.loByte nn, Machine.hiByte nn]
  | .ld_atDE_A => [0x12]
  | .inc_DE => [0x13]
  | .inc_D => [0x14]
  | .dec_D => [0x15]
  | .ld_D_n n => [0x16, n]
  | .rla => [0x17]
  | .jr_e e => [0x18, e]
  | .add_HL_DE => [0x19]
  | .ld_A_atDE => [0x1A]
  | .dec_DE => [0x1B]
  | .inc_E => [0x1C]
  | .dec_E => [0x1D]
  | .ld_E_n n => [0x1E, n]
  | .rra => [0x1F]
  | .jr_NZ_e e => [0x20, e]
  | .ld_HL_nn nn => [0x21, Machine.loByte nn, Machine.hiByte nn]
  | .ld_atHLinc_A => [0x22]
  | .inc_HL => [0x23]
  | .inc_H => [0x24]
  | .dec_H => [0x25]
  | .ld_H_n n => [0x26, n]
  | .daa => [0x27]
  | .jr_Z_e e => [0x28, e]
  | .add_HL_HL => [0x29]
  | .ld_A_atHLinc => [0x2A]
  | .dec_HL => [0x2B]
  | .inc_L => [0x2C]
  | .dec_L => [0x2D]
  | .ld_L_n n => [0x2E, n]
  | .cpl => [0x2F]
  | .jr_NC_e e => [0x30, e]
  | .ld_SP_nn nn => [0x31, Machine.loByte nn, Machine.hiByte nn]
  | .ld_atHLdec_A => [0x32]
  | .inc_SP => [0x33]
  | .inc_atHL => [0x34]
  | .dec_atHL => [0x35]
  | .ld_atHL_n n => [0x36, n]
  | .scf => [0x37]
  | .jr_C_e e => [0x38, e]
  | .add_HL_SP => [0x39]
  | .ld_A_atHLdec => [0x3A]
  | .dec_SP => [0x3B]
  | .inc_A => [0x3C]
  | .dec_A => [0x3D]
  | .ld_A_n n => [0x3E, n]
  | .ccf => [0x3F]
  | .ld_B_B => [0x40]
  | .ld_B_C => [0x41]
  | .ld_B_D => [0x42]
  | .ld_B_E => [0x43]
  | .ld_B_H => [0x44]
  | .ld_B_L => [0x45]
  | .ld_B_atHL => [0x46]
  | .ld_B_A => [0x47]
  | .ld_C_B => [0x48]
  | .ld_C_C => [0x49]
  | .ld_C_D => [0x4A]
  | .ld_C_E => [0x4B]
  | .ld_C_H => [0x4C]
  | .ld_C_L => [0x4D]
  | .ld_C_atHL => [0x4E]
  | .ld_C_A => [0x4F]
  | .ld_D_B => [0x50]
  | .ld_D_C => [0x51]
  | .ld_D_D => [0x52]
  | .ld_D_E => [0x53]
  | .ld_D_H => [0x54]
  | .ld_D_L => [0x55]
  | .ld_D_atHL => [0x56]
  | .ld_D_A => [0x57]
  | .ld_E_B => [0x58]
  | .ld_E_C => [0x59]
  | .ld_E_D => [0x5A]
  | .ld_E_E => [0x5B]
  | .ld_E_H => [0x5C]
  | .ld_E_L => [0x5D]
  | .ld_E_atHL => [0x5E]
  | .ld_E_A => [0x5F]
  | .ld_H_B => [0x60]
  | .ld_H_C => [0x61]
  | .ld_H_D => [0x62]
  | .ld_H_E => [0x63]
  | .ld_H_H => [0x64]
  | .ld_H_L => [0x65]
  | .ld_H_atHL => [0x66]
  | .ld_H_A => [0x67]
  | .ld_L_B => [0x68]
  | .ld_L_C => [0x69]
  | .ld_L_D => [0x6A]
  | .ld_L_E => [0x6B]
  | .ld_L_H => [0x6C]
  | .ld_L_L => [0x6D]
  | .ld_L_atHL => [0x6E]
  | .ld_L_A => [0x6F]
  | .ld_atHL_B => [0x70]
  | .ld_atHL_C => [0x71]
  | .ld_atHL_D => [0x72]
  | .ld_atHL_E => [0x73]
  | .ld_atHL_H => [0x74]
  | .ld_atHL_L => [0x75]
  | .halt => [0x76]
  | .ld_atHL_A => [0x77]
  | .ld_A_B => [0x78]
  | .ld_A_C => [0x79]
  | .ld_A_D => [0x7A]
  | .ld_A_E => [0x7B]
  | .ld_A_H => [0x7C]
  | .ld_A_L => [0x7D]
  | .ld_A_atHL => [0x7E]
  | .ld_A_A => [0x7F]
  | .add_A_B => [0x80]
  | .add_A_C => [0x81]
  | .add_A_D => [0x82]
  | .add_A_E => [0x83]
  | .add_A_H => [0x84]
  | .add_A_L => [0x85]
  | .add_A_atHL => [0x86]
  | .add_A_A => [0x87]
  | .adc_A_B => [0x88]
  | .adc_A_C => [0x89]
  | .adc_A_D => [0x8A]
  | .adc_A_E => [0x8B]
  | .adc_A_H => [0x8C]
  | .adc_A_L => [0x8D]
  | .adc_A_atHL => [0x8E]
  | .adc_A_A => [0x8F]
  | .sub_B => [0x90]
  | .sub_C => [0x91]
  | .sub_D => [0x92]
  | .sub_E => [0x93]
  | .sub_H => [0x94]
  | .sub_L => [0x95]
  | .sub_atHL => [0x96]
  | .sub_A => [0x97]
  | .sbc_A_B => [0x98]
  | .sbc_A_C => [0x99]
  | .sbc_A_D => [0x9A]
  | .sbc_A_E => [0x9B]
  | .sbc_A_H => [0x9C]
  | .sbc_A_L => [0x9D]
  | .sbc_A_atHL => [0x9E]
  | .sbc_A_A => [0x9F]
  | .and_B => [0xA0]
  | .and_C => [0xA1]
  | .and_D => [0xA2]
  | .and_E => [0xA3]
  | .and_H => [0xA4]
  | .and_L => [0xA5]
  | .and_atHL => [0xA6]
  | .and_A => [0xA7]
  | .xor_B => [0xA8]
  | .xor_C => [0xA9]
  | .xor_D => [0xAA]
  | .xor_E => [0xAB]
  | .xor_H => [0xAC]
  | .xor_L => [0xAD]
  | .xor_atHL => [0xAE]
  | .xor_A => [0xAF]
  | .or_B => [0xB0]
  | .or_C => [0xB1]
  | .or_D => [0xB2]
  | .or_E => [0xB3]
  | .or_H => [0xB4]
  | .or_L => [0xB5]
  | .or_atHL => [0xB6]
  | .or_A => [0xB7]
  | .cp_B => [0xB8]
  | .cp_C => [0xB9]
  | .cp_D => [0xBA]
  | .cp_E => [0xBB]
  | .cp_H => [0xBC]
  | .cp_L => [0xBD]
  | .cp_atHL => [0xBE]
  | .cp_A => [0xBF]
  | .ret_NZ => [0xC0]
  | .pop_BC => [0xC1]
  | .jp_NZ_nn nn => [0xC2, Machine.loByte nn, Machine.hiByte nn]
  | .jp_nn nn => [0xC3, Machine.loByte nn, Machine.hiByte nn]
  | .call_NZ_nn nn => [0xC4, Machine.loByte nn, Machine.hiByte nn]
  | .push_BC => [0xC5]
  | .add_A_n n => [0xC6, n]
  | .rst_00 => [0xC7]
  | .ret_Z => [0xC8]
  | .ret => [0xC9]
  | .jp_Z_nn nn => [0xCA, Machine.loByte nn, Machine.hiByte nn]
  | .prefixCB op2 => [0xCB, op2]
  | .call_Z_nn nn => [0xCC, Machine.loByte nn, Machine.hiByte nn]
  | .call_nn nn => [0xCD, Machine.loByte nn, Machine.hiByte nn]
  | .adc_A_n n => [0xCE, n]
  | .rst_08 => [0xCF]
  | .ret_NC => [0xD0]
  | .pop_DE => [0xD1]
  | .jp_NC_nn nn => [0xD2, Machine.loByte nn, Machine.hiByte nn]
  | .undef_D3 => [0xD3]
  | .call_NC_nn nn => [0xD4, Machine.loByte nn, Machine.hiByte nn]
  | .push_DE => [0xD5]
  | .sub_n n => [0xD6, n]
  | .rst_10 => [0xD7]
  | .ret_C => [0xD8]
  | .reti => [0xD9]
  | .jp_C_nn nn => [0xDA, Machine.loByte nn, Machine.hiByte nn]
  | .undef_DB => [0xDB]
  | .call_C_nn nn => [0xDC, Machine.loByte nn, Machine.hiByte nn]
  | .undef_DD => [0xDD]
  | .sbc_A_n n => [0xDE, n]
  | .rst_18 => [0xDF]
  | .ldh_atn_A n => [0xE0, n]
  | .pop_HL => [0xE1]
  | .ld_atC_A => [0xE2]
  | .undef_E3 => [0xE3]
  | .undef_E4 => [0xE4]
  | .push_HL => [0xE5]
  | .and_n n => [0xE6, n]
  | .rst_20 => [0xE7]
  | .add_SP_e e => [0xE8, e]
  | .jp_HL => [0xE9]
  | .ld_atnn_A nn => [0xEA, Machine.loByte nn, Machine.hiByte nn]
  | .undef_EB => [0xEB]
  | .undef_EC => [0xEC]
  | .undef_ED => [0xED]
  | .xor_n n => [0xEE, n]
  | .rst_28 => [0xEF]
  | .ldh_A_atn n => [0xF0, n]
  | .pop_AF => [0xF1]
  | .ld_A_atC => [0xF2]
  | .di => [0xF3]
  | .undef_F4 => [0xF4]
  | .push_AF => [0xF5]
  | .or_n n => [0xF6, n]
  | .rst_30 => [0xF7]
  | .ld_HL_SPe e => [0xF8, e]
  | .ld_SP_HL => [0xF9]
  | .ld_A_atnn nn => [0xFA, Machine.loByte nn, Machine.hiByte nn]
  | .ei => [0xFB]
  | .undef_FC => [0xFC]
  | .undef_FD => [0xFD]
  | .cp_n n => [0xFE, n]
  | .rst_38 => [0xFF]
  | .rlc_B => [0xCB, 0x00]
  | .rlc_C => [0xCB, 0x01]
  | .rlc_D => [0xCB, 0x02]
  | .rlc_E => [0xCB, 0x03]
  | .rlc_H => [0xCB, 0x04]
  | .rlc_L => [0xCB, 0x05]
  | .rlc_atHL => [0xCB, 0x06]
  | .rlc_A => [0xCB, 0x07]
  | .rrc_B => [0xCB, 0x08]
  | .rrc_C => [0xCB, 0x09]
  | .rrc_D => [0xCB, 0x0A]
  | .rrc_E => [0xCB, 0x0B]
  | .rrc_H => [0xCB, 0x0C]
  | .rrc_L => [0xCB, 0x0D]
  | .rrc_atHL => [0xCB, 0x0E]
  | .rrc_A => [0xCB, 0x0F]
  | .rl_B => [0xCB, 0x10]
  | .rl_C => [0xCB, 0x11]
  | .rl_D => [0xCB, 0x12]
  | .rl_E => [0xCB, 0x13]
  | .rl_H => [0xCB, 0x14]
  | .rl_L => [0xCB, 0x15]
  | .rl_atHL => [0xCB, 0x16]
  | .rl_A => [0xCB, 0x17]
  | .rr_B => [0xCB, 0x18]
  | .rr_C => [0xCB, 0x19]
  | .rr_D => [0xCB, 0x1A]
  | .rr_E => [0xCB, 0x1B]
  | .rr_H => [0xCB, 0x1C]
  | .rr_L => [0xCB, 0x1D]
  | .rr_atHL => [0xCB, 0x1E]
  | .rr_A => [0xCB, 0x1F]
  | .sla_B => [0xCB, 0x20]
  | .sla_C => [0xCB, 0x21]
  | .sla_D => [0xCB, 0x22]
  | .sla_E => [0xCB, 0x23]
  | .sla_H => [0xCB, 0x24]
  | .sla_L => [0xCB, 0x25]
  | .sla_atHL => [0xCB, 0x26]
  | .sla_A => [0xCB, 0x27]
  | .sra_B => [0xCB, 0x28]
  | .sra_C => [0xCB, 0x29]
  | .sra_D => [0xCB, 0x2A]
  | .sra_E => [0xCB, 0x2B]
  | .sra_H => [0xCB, 0x2C]
  | .sra_L => [0xCB, 0x2D]
  | .sra_atHL => [0xCB, 0x2E]
  | .sra_A => [0xCB, 0x2F]
  | .swap_B => [0xCB, 0x30]
  | .swap_C => [0xCB, 0x31]
  | .swap_D => [0xCB, 0x32]
  | .swap_E => [0xCB, 0x33]
  | .swap_H => [0xCB, 0x34]
  | .swap_L => [0xCB, 0x35]
  | .swap_atHL => [0xCB, 0x36]
  | .swap_A => [0xCB, 0x37]
  | .srl_B => [0xCB, 0x38]
  | .srl_C => [0xCB, 0x39]
  | .srl_D => [0xCB, 0x3A]
  | .srl_E => [0xCB, 0x3B]
  | .srl_H => [0xCB, 0x3C]
  | .srl_L => [0xCB, 0x3D]
  | .srl_atHL => [0xCB, 0x3E]
  | .srl_A => [0xCB, 0x3F]
  | .bit_0_B => [0xCB, 0x40]
  | .bit_0_C => [0xCB, 0x41]
  | .bit_0_D => [0xCB, 0x42]
  | .bit_0_E => [0xCB, 0x43]
  | .bit_0_H => [0xCB, 0x44]
  | .bit_0_L => [0xCB, 0x45]
  | .bit_0_atHL => [0xCB, 0x46]
  | .bit_0_A => [0xCB, 0x47]
  | .bit_1_B => [0xCB, 0x48]
  | .bit_1_C => [0xCB, 0x49]
  | .bit_1_D => [0xCB, 0x4A]
  | .bit_1_E => [0xCB, 0x4B]
  | .bit_1_H => [0xCB, 0x4C]
  | .bit_1_L => [0xCB, 0x4D]
  | .bit_1_atHL => [0xCB, 0x4E]
  | .bit_1_A => [0xCB, 0x4F]
  | .bit_2_B => [0xCB, 0x50]
  | .bit_2_C => [0xCB, 0x51]
  | .bit_2_D => [0xCB, 0x52]
  | .bit_2_E => [0xCB, 0x53]
  | .bit_2_H => [0xCB, 0x54]
  | .bit_2_L => [0xCB, 0x55]
  | .bit_2_atHL => [0xCB, 0x56]
  | .bit_2_A => [0xCB, 0x57]
  | .bit_3_B => [0xCB, 0x58]
  | .bit_3_C => [0xCB, 0x59]
  | .bit_3_D => [0xCB, 0x5A]
  | .bit_3_E => [0xCB, 0x5B]
  | .bit_3_H => [0xCB, 0x5C]
  | .bit_3_L => [0xCB, 0x5D]
  | .bit_3_atHL => [0xCB, 0x5E]
  | .bit_3_A => [0xCB, 0x5F]
  | .bit_4_B => [0xCB, 0x60]
  | .bit_4_C => [0xCB, 0x61]
  | .bit_4_D => [0xCB, 0x62]
  | .bit_4_E => [0xCB, 0x63]
  | .bit_4_H => [0xCB, 0x64]
  | .bit_4_L => [0xCB, 0x65]
  | .bit_4_atHL => [0xCB, 0x66]
  | .bit_4_A => [0xCB, 0x67]
  | .bit_5_B => [0xCB, 0x68]
  | .bit_5_C => [0xCB, 0x69]
  | .bit_5_D => [0xCB, 0x6A]
  | .bit_5_E => [0xCB, 0x6B]
  | .bit_5_H => [0xCB, 0x6C]
  | .bit_5_L => [0xCB, 0x6D]
  | .bit_5_atHL => [0xCB, 0x6E]
  | .bit_5_A => [0xCB, 0x6F]
  | .bit_6_B => [0xCB, 0x70]
  | .bit_6_C => [0xCB, 0x71]
  | .bit_6_D => [0xCB, 0x72]
  | .bit_6_E => [0xCB, 0x73]
  | .bit_6_H => [0xCB, 0x74]
  | .bit_6_L => [0xCB, 0x75]
  | .bit_6_atHL => [0xCB, 0x76]
  | .bit_6_A => [0xCB, 0x77]
  | .bit_7_B => [0xCB, 0x78]
  | .bit_7_C => [0xCB, 0x79]
  | .bit_7_D => [0xCB, 0x7A]
  | .bit_7_E => [0xCB, 0x7B]
  | .bit_7_H => [0xCB, 0x7C]
  | .bit_7_L => [0xCB, 0x7D]
  | .bit_7_atHL => [0xCB, 0x7E]
  | .bit_7_A => [0xCB, 0x7F]
  | .res_0_B => [0xCB, 0x80]
  | .res_0_C => [0xCB, 0x81]
  | .res_0_D => [0xCB, 0x82]
  | .res_0_E => [0xCB, 0x83]
  | .res_0_H => [0xCB, 0x84]
  | .res_0_L => [0xCB, 0x85]
  | .res_0_atHL => [0xCB, 0x86]
  | .res_0_A => [0xCB, 0x87]
  | .res_1_B => [0xCB, 0x88]
  | .res_1_C => [0xCB, 0x89]
  | .res_1_D => [0xCB, 0x8A]
  | .res_1_E => [0xCB, 0x8B]
  | .res_1_H => [0xCB, 0x8C]
  | .res_1_L => [0xCB, 0x8D]
  | .res_1_atHL => [0xCB, 0x8E]
  | .res_1_A => [0xCB, 0x8F]
  | .res_2_B => [0xCB, 0x90]
  | .res_2_C => [0xCB, 0x91]
  | .res_2_D => [0xCB, 0x92]
  | .res_2_E => [0xCB, 0x93]
  | .res_2_H => [0xCB, 0x94]
  | .res_2_L => [0xCB, 0x95]
  | .res_2_atHL => [0xCB, 0x96]
  | .res_2_A => [0xCB, 0x97]
  | .res_3_B => [0xCB, 0x98]
  | .res_3_C => [0xCB, 0x99]
  | .res_3_D => [0xCB, 0x9A]
  | .res_3_E => [0xCB, 0x9B]
  | .res_3_H => [0xCB, 0x9C]
  | .res_3_L => [0xCB, 0x9D]
  | .res_3_atHL => [0xCB, 0x9E]
  | .res_3_A => [0xCB, 0x9F]
  | .res_4_B => [0xCB, 0xA0]
  | .res_4_C => [0xCB, 0xA1]
  | .res_4_D => [0xCB, 0xA2]
  | .res_4_E => [0xCB, 0xA3]
  | .res_4_H => [0xCB, 0xA4]
  | .res_4_L => [0xCB, 0xA5]
  | .res_4_atHL => [0xCB, 0xA6]
  | .res_4_A => [0xCB, 0xA7]
  | .res_5_B => [0xCB, 0xA8]
  | .res_5_C => [0xCB, 0xA9]
  | .res_5_D => [0xCB, 0xAA]
  | .res_5_E => [0xCB, 0xAB]
  | .res_5_H => [0xCB, 0xAC]
  | .res_5_L => [0xCB, 0xAD]
  | .res_5_atHL => [0xCB, 0xAE]
  | .res_5_A => [0xCB, 0xAF]
  | .res_6_B => [0xCB, 0xB0]
  | .res_6_C => [0xCB, 0xB1]
  | .res_6_D => [0xCB, 0xB2]
  | .res_6_E => [0xCB, 0xB3]
  | .res_6_H => [0xCB, 0xB4]
  | .res_6_L => [0xCB, 0xB5]
  | .res_6_atHL => [0xCB, 0xB6]
  | .res_6_A => [0xCB, 0xB7]
  | .res_7_B => [0xCB, 0xB8]
  | .res_7_C => [0xCB, 0xB9]
  | .res_7_D => [0xCB, 0xBA]
  | .res_7_E => [0xCB, 0xBB]
  | .res_7_H => [0xCB, 0xBC]
  | .res_7_L => [0xCB, 0xBD]
  | .res_7_atHL => [0xCB, 0xBE]
  | .res_7_A => [0xCB, 0xBF]
  | .set_0_B => [0xCB, 0xC0]
  | .set_0_C => [0xCB, 0xC1]
  | .set_0_D => [0xCB, 0xC2]
  | .set_0_E => [0xCB, 0xC3]
  | .set_0_H => [0xCB, 0xC4]
  | .set_0_L => [0xCB, 0xC5]
  | .set_0_atHL => [0xCB, 0xC6]
  | .set_0_A => [0xCB, 0xC7]
  | .set_1_B => [0xCB, 0xC8]
  | .set_1_C => [0xCB, 0xC9]
  | .set_1_D => [0xCB, 0xCA]
  | .set_1_E => [0xCB, 0xCB]
  | .set_1_H => [0xCB, 0xCC]
  | .set_1_L => [0xCB, 0xCD]
  | .set_1_atHL => [0xCB, 0xCE]
  | .set_1_A => [0xCB, 0xCF]
  | .set_2_B => [0xCB, 0xD0]
  | .set_2_C => [0xCB, 0xD1]
  | .set_2_D => [0xCB, 0xD2]
  | .set_2_E => [0xCB, 0xD3]
  | .set_2_H => [0xCB, 0xD4]
  | .set_2_L => [0xCB, 0xD5]
  | .set_2_atHL => [0xCB, 0xD6]
  | .set_2_A => [0xCB, 0xD7]
  | .set_3_B => [0xCB, 0xD8]
  | .set_3_C => [0xCB, 0xD9]
  | .set_3_D => [0xCB, 0xDA]
  | .set_3_E => [0xCB, 0xDB]
  | .set_3_H => [0xCB, 0xDC]
  | .set_3_L => [0xCB, 0xDD]
  | .set_3_atHL => [0xCB, 0xDE]
  | .set_3_A => [0xCB, 0xDF]
  | .set_4_B => [0xCB, 0xE0]
  | .set_4_C => [0xCB, 0xE1]
  | .set_4_D => [0xCB, 0xE2]
  | .set_4_E => [0xCB, 0xE3]
  | .set_4_H => [0xCB, 0xE4]
  | .set_4_L => [0xCB, 0xE5]
  | .set_4_atHL => [0xCB, 0xE6]
  | .set_4_A => [0xCB, 0xE7]
  | .set_5_B => [0xCB, 0xE8]
  | .set_5_C => [0xCB, 0xE9]
  | .set_5_D => [0xCB, 0xEA]
  | .set_5_E => [0xCB, 0xEB]
  | .set_5_H => [0xCB, 0xEC]
  | .set_5_L => [0xCB, 0xED]
  | .set_5_atHL => [0xCB, 0xEE]
  | .set_5_A => [0xCB, 0xEF]
  | .set_6_B => [0xCB, 0xF0]
  | .set_6_C => [0xCB, 0xF1]
  | .set_6_D => [0xCB, 0xF2]
  | .set_6_E => [0xCB, 0xF3]
  | .set_6_H => [0xCB, 0xF4]
  | .set_6_L => [0xCB, 0xF5]
  | .set_6_atHL => [0xCB, 0xF6]
  | .set_6_A => [0xCB, 0xF7]
  | .set_7_B => [0xCB, 0xF8]
  | .set_7_C => [0xCB, 0xF9]
  | .set_7_D => [0xCB, 0xFA]
  | .set_7_E => [0xCB, 0xFB]
  | .set_7_H => [0xCB, 0xFC]
  | .set_7_L => [0xCB, 0xFD]
  | .set_7_atHL => [0xCB, 0xFE]
  | .set_7_A => [0xCB, 0xFF]

/-! ### The table's own numbering of an instruction's bits -/

/-- The first three bytes of an instruction that the opcode table gives as `nbits` bits of value `w`. A
base row has 8 bits. A CB row has 16, and its number has the first byte, 0xCB, in the HIGH half (match
0xCB07 for RLC A): such a number is laid out high byte first. Any other number is laid out low byte first
(log entry 10). -/
def tableBytes (nbits w : Nat) : List Byte :=
  if nbits = 16 ∧ w / 256 = 0xCB then [0xCB, BitVec.ofNat 8 w, 0]
  else
    let v := w % 2 ^ nbits
    [BitVec.ofNat 8 v, BitVec.ofNat 8 (v / 256), BitVec.ofNat 8 (v / 65536)]

/-- The instruction the decoder reads from a word of the opcode table, with the default `P_STOP_LEN`. -/
def decodeTableWord (nbits w : Nat) : Option Instr :=
  match decode Config.standard.stopLen (tableBytes nbits w) with
  | .ok (i, _) => some i
  | .error _ => none

end Sys2Proof
end

