-- ==== Sys2Proof/Machine/Timer.lean ====
section
/-! DEFINITION. The Timer (R530 to R537). Its own writes go to its registers and to IF directly, not through the bus (R530). -/

namespace Sys2Proof.Machine

/-- `Period` in clock cycles, by TAC[1:0] (R535). -/
def timerPeriod (tac : Byte) : Nat :=
  match tac.toNat % 4 with
  | 0 => 1024
  | 1 => 16
  | 2 => 64
  | _ => 256

/-- The enable bit, TAC[2] (R535). -/
def timerEnabled (tac : Byte) : Bool := tac.getLsbD 2

/-- One increment of DIV (R530, R532). -/
def State.divTick (s : State) : State := s.poke addrDIV (s.readByte addrDIV + 1)

/-- `TimaTick()` (R534): on overflow TIMA is reloaded from TMA and IF bit 2 is set (R536). -/
def State.timaTick (s : State) : State :=
  if s.readByte addrTIMA = 0xFF then
    let s1 := s.poke addrTIMA (s.readByte addrTMA)
    s1.poke addrIF (s1.readByte addrIF ||| 0x04#8)
  else s.poke addrTIMA (s.readByte addrTIMA + 1)

/-- `n` increments of DIV. -/
def State.divTicks : Nat → State → State
  | 0, s => s
  | n + 1, s => divTicks n s.divTick

/-- `n` ticks of TIMA. -/
def State.timaTicks : Nat → State → State
  | 0, s => s
  | n + 1, s => timaTicks n s.timaTick

/-- The first loop of `Advance(clk)` (R530): DIV counts once per 256 clocks, and the rest is carried. -/
def State.advanceDiv (s : State) (clk : Nat) : State :=
  let acc := s.divAcc + clk
  { State.divTicks (acc / 256) s with divAcc := acc % 256 }

/-- The second loop of `Advance(clk)` (R530): while enabled, TIMA ticks once per period, and the rest is
carried. The period is that of TAC at the advance (decision D27). -/
def State.advanceTima (s : State) (clk : Nat) : State :=
  let tac := s.readByte addrTAC
  if timerEnabled tac then
    let period := timerPeriod tac
    let acc := s.timaAcc + clk
    { State.timaTicks (acc / period) s with timaAcc := acc % period }
  else s

/-- `Advance(clk)` (R530). -/
def State.advanceTimer (s : State) (clk : Nat) : State := (s.advanceDiv clk).advanceTima clk

end Sys2Proof.Machine
end

