-- ==== Sys2Proof/Machine/Interrupts.lean ====
section
/-! DEFINITION. The interrupt dispatcher (R512 to R519). `State.enterInterrupt` itself (R517) is in Machine/Ops.lean. -/

namespace Sys2Proof.Machine

/-- `pend` (R513): enabled requests, bits 4 to 0. -/
def State.pendingInterrupts (s : State) : Byte :=
  s.readByte addrIE &&& s.readByte addrIF &&& 0x1F#8

/-- The lowest set bit of a non-zero `pend` (R514). -/
def lowestSetBit (pend : Byte) : Nat :=
  if pend.getLsbD 0 then 0
  else if pend.getLsbD 1 then 1
  else if pend.getLsbD 2 then 2
  else if pend.getLsbD 3 then 3
  else 4

/-- Interrupt entry with its cost (R517, R518): 5 machine cycles, and the Timer advances by them. -/
def State.dispatchInterrupt (s : State) (k : Nat) : State :=
  let s1 := s.enterInterrupt k
  ({ s1 with cycles := s1.cycles + entryCycles }).advanceTimer (4 * entryCycles)

/-- `InterruptCheck()` (R515): a pending enabled request ends Halted (R516), and is entered if `ime` is set. -/
def State.interruptCheck (s : State) : State :=
  match s.cfg.dispatch with
  | .absent => s
  | .standard =>
    if s.fault.isSome || s.stopped then s
    else if s.pendingInterrupts = 0 then s
    else
      let s1 := { s with halted := false }
      if s1.ime then s1.dispatchInterrupt (lowestSetBit s.pendingInterrupts) else s1

end Sys2Proof.Machine
end

