-- ==== Sys2Proof/Machine/Engine.lean ====
section
/-! DEFINITION. The fetch-decode-execute engine around the instructions' own rules (R33, R360 to R373), and the snapshot (R545). -/

namespace Sys2Proof.Machine

/-- The run states (R33). -/
inductive RunState where
  | running
  | halted
  | stopped
deriving DecidableEq, Repr

/-- The run state of the mode flags (R33). -/
def State.runState (s : State) : RunState :=
  if s.stopped then .stopped else if s.halted then .halted else .running

/-- The instruction whose bytes are `op`, `b1`, `b2`, with the machine's own `P_STOP_LEN` (R118). -/
def State.decodeBytes (s : State) (op b1 b2 : Byte) : Instr := decodeInstr s.cfg.stopLen op b1 b2

/-- Fetch and decode (R101, R363): the instruction whose bytes start at PC. Reading past a short
instruction has no effect, since no read has one (R69). -/
def State.fetchInstr (s : State) : Instr :=
  s.decodeBytes (s.readByte s.pc) (s.readByte (s.pc + 1)) (s.readByte (s.pc + 2))

/-- Whether the instruction is DI (R366). -/
def isDI : Instr → Bool
  | .di => true
  | _ => false

/-- Whether the instruction is EI (R366). -/
def isEI : Instr → Bool
  | .ei => true
  | _ => false

/-- The EI delay (R366), on the state the instruction `i` left; `pend0` is `ime_pending` before it ran. -/
def State.eiDelay (s : State) (i : Instr) (pend0 : Bool) : State :=
  let s1 := if pend0 && !(s.cfg.diCancelsEi && isDI i) then { s with ime := true } else s
  if isEI i then s1 else { s1 with imePending := false }

/-- Items 2 to 4 of a system step (R360): `cycles += delta` (R371), the Timer advance by `4 * delta`
clock cycles (R372, R530), the interrupt check (R515). -/
def State.completeStep (s : State) : State :=
  (({ s with cycles := s.cycles + s.delta }).advanceTimer (4 * s.delta)).interruptCheck

/-- What the system step adds to the effect of a fetched instruction `i` (R360, R366). A step that
raised the fatal fault changes nothing else: no cycle, no Timer advance, no interrupt check (R500). -/
def State.afterExec (s : State) (i : Instr) (pend0 : Bool) : State :=
  match s.fault with
  | some _ => s
  | none => (s.eiDelay i pend0).completeStep

/-- A Halted step (R362): no fetch, one machine cycle, then items 2 to 4 of R360. -/
def State.haltedStep (s : State) : State := (s.charge haltedCycles).completeStep

/-- The read-only snapshot of R545. The four flags are bits 7 to 4 of `f`. -/
structure Snapshot where
  a : Byte
  f : Byte
  b : Byte
  c : Byte
  d : Byte
  e : Byte
  h : Byte
  l : Byte
  sp : Word
  pc : Word
  halted : Bool
  stopped : Bool
  ime : Bool
  imePending : Bool
  cycles : Nat
  fault : Option FaultRecord
  /-- The bytes at PC, PC+1, PC+2 and PC+3. -/
  next4 : List Byte
deriving DecidableEq, Repr

/-- State inspection (R7 item 3, R545). -/
def State.snapshot (s : State) : Snapshot where
  a := s.a
  f := s.readF
  b := s.b
  c := s.c
  d := s.d
  e := s.e
  h := s.h
  l := s.l
  sp := s.sp
  pc := s.pc
  halted := s.halted
  stopped := s.stopped
  ime := s.ime
  imePending := s.imePending
  cycles := s.cycles
  fault := s.fault
  next4 := [s.readByte s.pc, s.readByte (s.pc + 1), s.readByte (s.pc + 2), s.readByte (s.pc + 3)]

/-- Three bytes placed at PC directly (not through the bus: code may lie in ROM), as a launch image would. -/
def State.placeAtPC (s : State) (bytes : List Byte) : State :=
  ((s.poke s.pc (bytes.getD 0 0)).poke (s.pc + 1) (bytes.getD 1 0)).poke (s.pc + 2) (bytes.getD 2 0)

end Sys2Proof.Machine
end

