-- ==== Sys2Proof/Machine/Step.lean ====
section
/-! DEFINITION. The system step (R360), and the placing of one instruction where the next step fetches it. -/

namespace Sys2Proof.Machine

/-- A system step (R360). A state with a fault recorded or with `stopped` set has none (R361). -/
def step (s : State) : Host.Outcome State Fault Refusal :=
  match s.fault with
  | some r => .fault (.runFaulted r)
  | none =>
    match s.runState with
    | .stopped => .fault .runStopped
    | .halted => .next s.haltedStep
    | .running =>
      match exec s.fetchInstr s with
      | .next t => .next (t.afterExec s.fetchInstr s.imePending)
      | .fault r => .fault r
      | .refused r => .refused r

/-- `s` made ready to run one word of the opcode table as its next step: the word and zero bytes after it
at PC, and the run state Running with no fault. It stands for the launch image (R606, log entry 11). -/
def State.withFetchWord (s : State) (nbits w : Nat) : State :=
  { s.placeAtPC (tableBytes nbits w) with halted := false, stopped := false, fault := none }

end Sys2Proof.Machine
end

