-- ==== Sys2Proof/Safety.lean ====
section
/-! DEFINITION. What a good state is, and the words the statements are made of: a running state, the effect of bus writes, the end of a run. -/

namespace Sys2Proof.Machine

/-- The invariant of the machine's data: memory in its canonical form, F bits 3 to 0 zero (R24), and the
Timer's accumulators in their ranges between advances (R530). -/
def State.wf (s : State) : Bool :=
  s.mem.wf && decide (s.f = maskF s.f) && decide (s.divAcc < 256) && decide (s.timaAcc < 1024)

/-- The Engine fetches and executes (R33, R363): no fault is recorded and the run state is Running. -/
def State.Running (s : State) : Prop := s.fault = none ∧ s.stopped = false ∧ s.halted = false

/-- The Engine does not fetch (R33, R362): no fault is recorded and the run state is Halted. -/
def State.InHalt (s : State) : Prop := s.fault = none ∧ s.stopped = false ∧ s.halted = true

/-- A run that can go on (R373): it has ended neither by STOP nor by a fault. -/
def State.Live (s : State) : Prop := s.fault = none ∧ s.stopped = false

/-- `t` is the state `v`, in which the interrupt check runs, after interrupt entry for source `k` (R515 to R518):
there is a dispatcher, `ime` is set, the IE bit and the IF bit of `k` are set and no lower source has both; the
entry is done, 5 machine cycles are counted, and the Timer has advanced by 20 clocks. -/
def EntersInterrupt (v : State) (k : Nat) (t : State) : Prop :=
  v.cfg.dispatch = .standard ∧ v.Live ∧ v.ime = true ∧ k < 5 ∧
  (v.readByte 0xFFFF).getLsbD k = true ∧ (v.readByte 0xFF0F).getLsbD k = true ∧
  (∀ j < k, ¬ ((v.readByte 0xFFFF).getLsbD j = true ∧ (v.readByte 0xFF0F).getLsbD j = true)) ∧
  t = ({ ({ v with halted := false } : State).enterInterrupt k with cycles := v.cycles + 5 } : State).advanceTimer 20

/-- Memory and `div_acc` of `t` are what one `write_byte(x, v)` leaves of `s` (R68), byte by byte: below
`P_ROM_END` nothing; at DIV the byte and `div_acc` become 0; elsewhere the byte is stored; every other byte
reads as before. -/
def BusWrite (s : State) (x : Word) (v : Byte) (t : State) : Prop :=
  (∀ y : Word, t.readByte y =
    if y = x ∧ s.cfg.romEnd ≤ x.toNat then (if x = 0xFF04 then 0x00 else v) else s.readByte y) ∧
  t.divAcc = if x = 0xFF04 ∧ s.cfg.romEnd ≤ x.toNat then 0 else s.divAcc

/-- Two bus writes, one after the other. -/
def BusWrites (s : State) (x : Word) (v : Byte) (x' : Word) (v' : Byte) (t : State) : Prop :=
  ∃ u : State, u.cfg = s.cfg ∧ BusWrite s x v u ∧ BusWrite u x' v' t

/-- No bus write: every byte reads as before, and so does `div_acc`. -/
def NoWrite (s t : State) : Prop := (∀ y : Word, t.readByte y = s.readByte y) ∧ t.divAcc = s.divAcc

/-- `t` with memory and `div_acc` put back as in `s`: what is left to say about a step that writes memory. -/
def State.exceptMemory (t s : State) : State := { t with mem := s.mem, divAcc := s.divAcc }

/-- `t` is the state in which `dst8(o) <- v` has been done on `s` (R16) and then `rest`, which touches
neither memory nor `div_acc`: a register operand is set, a memory operand is one bus write at HL. -/
def WritesOperand (s : State) (o : Operand8) (v : Byte) (rest : State → State) (t : State) : Prop :=
  match o with
  | .reg r => t = rest (s.setReg8 r v)
  | .atHL => BusWrite s (s.h ++ s.l) v t ∧ t.exceptMemory s = rest s

/-- The result of a rotate or shift of the number `v` with the old carry `c` (0 or 1), in arithmetic
(R280 to R283, R291 to R298). -/
def rotateValue (op : RotOp) (v c : Nat) : Nat :=
  match op with
  | .rlc => (2 * v + v / 128) % 256
  | .rrc => v / 2 + 128 * (v % 2)
  | .rl => (2 * v + c) % 256
  | .rr => v / 2 + 128 * c
  | .sla => 2 * v % 256
  | .sra => v / 2 + 128 * (v / 128)
  | .swap => 16 * (v % 16) + v / 16
  | .srl => v / 2

/-- The bit that leaves the number `v` (R280 to R283, R291 to R298): bit 7 to the left, bit 0 to the
right, none for SWAP. -/
def rotateOut (op : RotOp) (v : Nat) : Bool :=
  match op with
  | .rlc | .rl | .sla => decide (v / 128 = 1)
  | .rrc | .rr | .sra | .srl => decide (v % 2 = 1)
  | .swap => false

/-- One of two figures, by whether the operand is in memory. -/
def Operand8.cost (o : Operand8) (onReg onHL : Nat) : Nat :=
  match o with
  | .reg _ => onReg
  | .atHL => onHL

/-- What the unconditional base opcode `op` costs, where `n` is the figure that its rule and R615 print: `n` under
the default `P_CYCLES`, else the figure of the table the machine has. -/
def State.ruleCost (s : State) (op : Byte) (n : Nat) : Nat :=
  if s.cfg.cycles = CycleTable.standard then n else s.cfg.cycles.cost op true

/-- What the conditional transfer `op` costs on one of its paths, where `n` is the figure of R616 for that path. -/
def State.ruleCostIf (s : State) (op : Byte) (taken : Bool) (n : Nat) : Nat :=
  if s.cfg.cycles = CycleTable.standard then n else s.cfg.cycles.cost op taken

/-- What the extended opcode `op2` costs, where `n` is the figure that its rule and R615 print. -/
def State.ruleCostCB (s : State) (op2 : Byte) (n : Nat) : Nat :=
  if s.cfg.cycles = CycleTable.standard then n else s.cfg.cycles.cbCost op2

/-- Two decimal digits as packed BCD. -/
def bcd (x : Nat) : Byte := BitVec.ofNat 8 (16 * (x / 10) + x % 10)

/-- Whether the condition field op[4:3] of an opcode byte holds (R108, R320). -/
def conditionField (op : Byte) (s : State) : Bool :=
  match op.toNat / 8 % 4 with
  | 0 => !s.fz
  | 1 => s.fz
  | 2 => !s.fc
  | _ => s.fc

end Sys2Proof.Machine
end

