-- ==== Sys2Proof/WellFormed.lean ====
section
/-! DEFINITION. Which terms of `Instr` are instructions. -/

namespace Sys2Proof

/-- The two checks. The byte 0xCB in the base table "is the prefix, not an instruction" (R114), so the row
`prefixCB` is no instruction; 0xCB and the byte after it are one of the 256 extended instructions (R115). STOP
has its second byte exactly where `P_STOP_LEN` is 2 (R118, R382). Every other term is well formed: the operands
of an instruction are bytes and words, and each admits all its values (R104). -/
def Instr.wf (stopLen : StopLen) : Instr → Bool
  | .prefixCB _ => false
  | .stop b => b.isSome == decide (stopLen = .two)
  | _ => true

end Sys2Proof
end

