-- ==== Sys2Proof/Certificates/Slice0/Obligations.lean ====
section
/-! DEFINITION. The statements about the model. Where one says what an instruction does, the instruction is given by its opcode byte: `s.decodeBytes op b1 b2` is the instruction whose bytes are `op`, `b1`, `b2` on the machine `s`. `s.ruleCost op n` is what the opcode costs there: `n`, the figure of its rule and of R615, with the default `P_CYCLES`, and otherwise the figure of the machine's own table (the spec's decision D17). An equation of whole states is a frame as well: a field that is not named is unchanged. -/

open Sys2Proof Sys2Proof.Machine

/-! ### Encoding -/

/-- Words written out from the encodings of R112 and R115, one or more of every family; STOP with either value of
`P_STOP_LEN`. The opcode map is the spec's decision D8, the length of STOP D19. -/
def Obligations.WordsOfTheSpecDecode : Prop :=
  decodeTableWord 8 0b00000000 = some .nop ∧
  decodeTableWord 8 0b01000001 = some .ld_B_C ∧
  decodeTableWord 8 0b01110110 = some .halt ∧
  decodeTableWord 8 0b01111110 = some .ld_A_atHL ∧
  decodeTableWord 8 0b00100010 = some .ld_atHLinc_A ∧
  decodeTableWord 8 0b11110001 = some .pop_AF ∧
  decodeTableWord 8 0b10011110 = some .sbc_A_atHL ∧
  decodeTableWord 8 0b00110101 = some .dec_atHL ∧
  decodeTableWord 8 0b00111001 = some .add_HL_SP ∧
  decodeTableWord 8 0b00011111 = some .rra ∧
  decodeTableWord 8 0b11011001 = some .reti ∧
  decodeTableWord 8 0b11101111 = some .rst_28 ∧
  decodeTableWord 8 0b11111011 = some .ei ∧
  decodeTableWord 8 0b11010011 = some .undef_D3 ∧
  decodeTableWord 16 0b1100101100110110 = some .swap_atHL ∧
  decodeTableWord 16 0b1100101101011110 = some .bit_3_atHL ∧
  decode .two [0x08, 0x34, 0x12] = .ok (.ld_atnn_SP 0x1234, []) ∧
  decode .two [0xDC, 0x34, 0x12] = .ok (.call_C_nn 0x1234, []) ∧
  decode .two [0x30, 0xFE] = .ok (.jr_NC_e 0xFE, []) ∧
  decode .two [0x10, 0xCB] = .ok (.stop (some 0xCB), []) ∧
  decode .one [0x10, 0xCB] = .ok (.stop none, [0xCB])

/-- Decoding the bytes of a well-formed instruction gives it back, whatever bytes follow: no bit of an encoding
is dropped. (That the term of STOP keeps its ignored second byte is the model's choice, log entry 9.) -/
def Obligations.DecodeOfEncodeIsTheInstruction : Prop :=
  ∀ (stopLen : StopLen) (i : Instr) (rest : List Byte), i.wf stopLen = true →
    decode stopLen (encode i ++ rest) = .ok (i, rest)

/-- What the decoder reads is a well-formed instruction, and its encoding is the very bytes read: each sequence
of bytes has one meaning, and no two encodings decode to one term. For STOP the latter is the model's choice (log
entry 9): the term keeps the second byte, which R382 has ignored, so that 10 00 and 10 CB, one STOP of the spec, are
two terms with one meaning. -/
def Obligations.EncodeOfDecodeIsTheBytes : Prop :=
  ∀ (stopLen : StopLen) (bytes rest : List Byte) (i : Instr), decode stopLen bytes = .ok (i, rest) →
    i.wf stopLen = true ∧ encode i ++ rest = bytes

/-- The first byte alone decides the length: `P_STOP_LEN` for 0x10, 3 or 2 for the opcodes listed, 1 for every
other. With that many bytes there, the decoder reads an instruction of exactly that length; with fewer, it
refuses. -/
def Obligations.LengthIsDecidedByTheFirstByte : Prop :=
  ∀ (stopLen : StopLen) (op : Byte) (rest : List Byte),
    let n := if op = 0x10 then stopLen.bytes
      else if op ∈ ([0x01, 0x08, 0x11, 0x21, 0x31, 0xC2, 0xC3, 0xC4, 0xCA, 0xCC, 0xCD, 0xD2, 0xD4, 0xDA, 0xDC,
          0xEA, 0xFA] : List Byte) then 3
      else if op ∈ ([0x06, 0x0E, 0x16, 0x1E, 0x26, 0x2E, 0x36, 0x3E, 0x18, 0x20, 0x28, 0x30, 0x38, 0xC6,
          0xCE, 0xD6, 0xDE, 0xE6, 0xEE, 0xF6, 0xFE, 0xE0, 0xE8, 0xF0, 0xF8, 0xCB] : List Byte) then 2
      else 1
    (n ≤ (op :: rest).length →
      ∃ i : Instr, decode stopLen (op :: rest) = .ok (i, (op :: rest).drop n) ∧ (encode i).length = n) ∧
    ((op :: rest).length < n → decode stopLen (op :: rest) = .error (.truncated op n))

/-- The row of the prefix byte and the extended table agree: 0xCB followed by `op2` runs, by the fields of
`op2`, what the instruction decoded from the two bytes runs, and always to a next state. The byte after `op2`
plays no part, and a second 0xCB is `SET 1,E`. -/
def Obligations.PrefixRunsTheExtendedTable : Prop :=
  (∀ (op2 b2 : Byte) (s : State), ∃ t : State,
    exec (.prefixCB op2) s = .next t ∧ exec (s.decodeBytes 0xCB op2 b2) s = .next t) ∧
  (∀ (b2 : Byte) (s : State), s.decodeBytes 0xCB 0xCB b2 = .set_1_E)

/-! ### The engine -/

/-- A step of a running state is `exec` of the instruction decoded at PC; then the EI delay; then `cycles` grows
by the charge, the Timer advances by four clocks a cycle, and the interrupt check runs. Where the instruction
raised the fatal fault, nothing is added. -/
def Obligations.StepRunsTheInstructionAtPC : Prop :=
  ∀ (s : State) (i : Instr) (rest : List Byte), s.Running →
    decode s.cfg.stopLen [s.readByte s.pc, s.readByte (s.pc + 1), s.readByte (s.pc + 2)] = .ok (i, rest) →
    ∃ t : State, exec i s = .next t ∧
      (t.fault ≠ none → step s = .next t) ∧
      (t.fault = none → step s = .next (
        ({ t with
            ime := if s.imePending = true ∧ ¬ (s.cfg.diCancelsEi = true ∧ i = .di) then true else t.ime
            imePending := if i = .ei then t.imePending else false
            cycles := t.cycles + t.delta } : State).advanceTimer (4 * t.delta)).interruptCheck)

/-- EI: its own step enters no interrupt, whatever IE and IF hold: PC is at the next instruction, SP and `ime` are
as before, and the request is noted. The next completed step, whatever its instruction is (but a DI where
`P_DI_CANCELS_EI` holds), sets `ime` when that instruction has run: it is set after the step, unless the check at
the end of that very step then entered a handler. The request is then gone, unless that instruction is EI again.
`ime` is clear before the EI, or there is no dispatcher: with interrupts enabled already an EI delays nothing. The
spec's decisions D20 and D23. -/
def Obligations.EiEnablesAfterTheNextInstruction : Prop :=
  ∀ s t : State, s.Running → s.imePending = false → (s.ime = false ∨ s.cfg.dispatch = .absent) →
    s.readByte s.pc = 0xFB → step s = .next t →
    (t.pc = s.pc + 1 ∧ t.sp = s.sp ∧ t.ime = s.ime ∧ t.imePending = true ∧ t.Running ∧
      t.cycles = s.cycles + t.delta) ∧
    ∀ u : State, step t = .next u → u.fault = none →
      ¬ (s.cfg.diCancelsEi = true ∧ t.readByte t.pc = 0xF3) →
      (u.ime = true ∧ (u.imePending = true ↔ t.readByte t.pc = 0xFB)) ∨
      (∃ (v : State) (k : Nat), EntersInterrupt v k u ∧ v.cycles = t.cycles + u.delta ∧ v.cfg = s.cfg)

/-- A Halted step executes no instruction: one machine cycle is counted and reported, the Timer advances by four
clocks, and the interrupt check runs; apart from the Timer and that check, nothing else changes. The figure 1 is
the spec's decision D21. -/
def Obligations.HaltedStepOnlyCountsTime : Prop :=
  ∀ s : State, s.InHalt →
    step s = .next (({ s with delta := 1, cycles := s.cycles + 1 } : State).advanceTimer 4).interruptCheck

/-- A state with a fault recorded, or with `stopped` set, has no step. -/
def Obligations.FaultedOrStoppedStateHasNoStep : Prop :=
  ∀ s : State, (∀ r, s.fault = some r → step s = .fault (.runFaulted r)) ∧
    (s.fault = none → s.stopped = true → step s = .fault .runStopped)

/-- The eleven bytes with no table entry, and no others, raise the fatal fault: the record is set to the byte,
unprefixed, and the address of the byte, and nothing else changes. A step of a running state at any other byte
completes with no fault. The set of bytes and the form of the record are the spec's decisions D9 and D10; that the
step at such a byte answers a NEXT state, which has no step after it, is the model's reading (log entry 5). -/
def Obligations.ElevenBytesRaiseTheFatalFault : Prop :=
  (∀ op ∈ ([0xD3, 0xDB, 0xDD, 0xE3, 0xE4, 0xEB, 0xEC, 0xED, 0xF4, 0xFC, 0xFD] : List Byte),
    ∀ (b1 b2 : Byte) (s : State),
      exec (s.decodeBytes op b1 b2) s =
        .next { s with fault := some ⟨.unimplementedOpcode, op, false, s.pc⟩ } ∧
      (s.Running → s.readByte s.pc = op →
        step s = .next { s with fault := some ⟨.unimplementedOpcode, op, false, s.pc⟩ })) ∧
  (∀ s : State, s.Running →
    s.readByte s.pc ∉ ([0xD3, 0xDB, 0xDD, 0xE3, 0xE4, 0xEB, 0xEC, 0xED, 0xF4, 0xFC, 0xFD] : List Byte) →
    ∃ t : State, step s = .next t ∧ t.fault = none)

/-- The cycle counter: a completed step adds its `delta`, and 5 more if it entered an interrupt; the step that
raises the fatal fault adds nothing. So the counter never falls. -/
def Obligations.StepAddsItsDeltaToCycles : Prop :=
  ∀ s t : State, step s = .next t →
    (t.fault ≠ none → t.cycles = s.cycles) ∧
    (t.fault = none → t.cycles = s.cycles + t.delta ∨
      (t.cycles = s.cycles + t.delta + 5 ∧ t.ime = false ∧ s.cfg.dispatch = .standard)) ∧
    s.cycles ≤ t.cycles

/-- Every instruction completes, and its charge is the figure of its cell in the machine's own `P_CYCLES`: for a
conditional transfer (the sixteen opcodes of R616) the taken figure where its condition field holds and the
not-taken one where it does not; for every other base opcode the one figure of its cell; for an extended
instruction the figure of the byte after 0xCB. And the default table: each conditional transfer's two figures, one
figure for each other opcode, none for the eleven unimplemented bytes and 0xCB, and for the extended opcodes 2, or
on (HL) 3 for BIT and 4 for the rest. (The figures of the other opcodes stand in the statement of each.) The
figures are the spec's decision D17. -/
def Obligations.CyclesAreThoseOfTheTable : Prop :=
  let conditional : List Byte :=
    [0x20, 0x28, 0x30, 0x38, 0xC2, 0xCA, 0xD2, 0xDA, 0xC4, 0xCC, 0xD4, 0xDC, 0xC0, 0xC8, 0xD0, 0xD8]
  let none' : List Byte := [0xCB, 0xD3, 0xDB, 0xDD, 0xE3, 0xE4, 0xEB, 0xEC, 0xED, 0xF4, 0xFC, 0xFD]
  (∀ (op b1 b2 : Byte) (s : State), op ∉ none' →
    ∃ t : State, exec (s.decodeBytes op b1 b2) s = .next t ∧
      t.delta = if op ∈ conditional ∧ conditionField op s = false then (s.cfg.cycles.cell op).notTaken
        else (s.cfg.cycles.cell op).taken) ∧
  (∀ (op2 b2 : Byte) (s : State), ∃ t : State, exec (s.decodeBytes 0xCB op2 b2) s = .next t ∧
    t.delta = s.cfg.cycles.cbCost op2) ∧
  (∀ op ∈ conditional, CycleTable.standard.cell op =
    if op.toNat < 0x40 then ⟨2, 3⟩ else if op.toNat % 8 = 2 then ⟨3, 4⟩ else if op.toNat % 8 = 4 then ⟨3, 6⟩
      else ⟨2, 5⟩) ∧
  (∀ op : Byte, op ∉ conditional → op ∉ none' →
    ∃ n : Nat, 0 < n ∧ CycleTable.standard.cell op = ⟨n, n⟩) ∧
  (∀ op ∈ none', CycleTable.standard.cell op = ⟨0, 0⟩) ∧
  (∀ op2 : Byte, CycleTable.standard.cbCost op2 =
    if op2.toNat % 8 = 6 then (if op2.toNat / 64 = 1 then 3 else 4) else 2)

/-! ### The Timer -/

/-- DIV counts once per 256 clocks, modulo 256, and the rest is carried in `div_acc`, whatever TAC holds. -/
def Obligations.DivCountsEvery256Clocks : Prop :=
  ∀ (s : State) (clk : Nat),
    ((s.advanceTimer clk).readByte 0xFF04).toNat =
      ((s.readByte 0xFF04).toNat + (s.divAcc + clk) / 256) % 256 ∧
    (s.advanceTimer clk).divAcc = (s.divAcc + clk) % 256

/-- One tick of TIMA: 0xFF is reloaded from TMA and IF bit 2 is set; any other value is incremented. No other
byte and no other field changes. The addresses are the spec's decisions D24 and D25. -/
def Obligations.TimaTickReloadsAndRequests : Prop :=
  ∀ s : State, { s.timaTick with mem := s.mem } = s ∧ ∀ y : Word,
    s.timaTick.readByte y =
      if s.readByte 0xFF05 = 0xFF then
        (if y = 0xFF0F then s.readByte 0xFF0F ||| 0x04 else if y = 0xFF05 then s.readByte 0xFF06 else s.readByte y)
      else if y = 0xFF05 then s.readByte 0xFF05 + 1 else s.readByte y

/-- TIMA over an advance (DIV counts in either case): disabled, TIMA, `tima_acc` and every byte but DIV hold;
enabled, TIMA ticks once per period and the rest is carried in `tima_acc`. Short of an overflow TIMA grows by the
number of periods and IF holds. Otherwise IF bit 2 is set, the tick that overflows reloads TMA, and the ticks after
it count on from TMA, reloading it again every 256 - TMA ticks. The period is 1024, 16, 64 or 256 clocks by
TAC[1:0]. DIV and the carry are R530 and R532, the reload and the request R534, TAC R535; the closed form of TIMA after
an overflow is read from their loops by inference. The layout of TAC and what it does to tima_acc are the spec's
decisions D25 and D27. -/
def Obligations.TimaCountsPeriodsWhileEnabled : Prop :=
  ∀ (s : State) (clk : Nat),
    let tac := s.readByte 0xFF07
    let period := if tac.toNat % 4 = 0 then 1024 else if tac.toNat % 4 = 1 then 16
      else if tac.toNat % 4 = 2 then 64 else 256
    let ticks := (s.timaAcc + clk) / period
    let tima := (s.readByte 0xFF05).toNat
    let tma := (s.readByte 0xFF06).toNat
    let t := s.advanceTimer clk
    t.readByte 0xFF04 = s.readByte 0xFF04 + BitVec.ofNat 8 ((s.divAcc + clk) / 256) ∧
    (tac.getLsbD 2 = false →
      t.timaAcc = s.timaAcc ∧ ∀ y : Word, y ≠ 0xFF04 → t.readByte y = s.readByte y) ∧
    (tac.getLsbD 2 = true →
      t.timaAcc = (s.timaAcc + clk) % period ∧
      (tima + ticks < 256 → (t.readByte 0xFF05).toNat = tima + ticks ∧ t.readByte 0xFF0F = s.readByte 0xFF0F) ∧
      (256 ≤ tima + ticks →
        (t.readByte 0xFF05).toNat = tma + (tima + ticks - 256) % (256 - tma) ∧
        t.readByte 0xFF0F = s.readByte 0xFF0F ||| 0x04))

/-- No clock cycle is lost or counted twice: advancing by `x` clocks and then by `y` reads the same, and carries
the same, as advancing by `x + y` at once. -/
def Obligations.TimerAdvancesAddUp : Prop :=
  ∀ (s : State) (x y : Nat),
    (∀ w : Word, ((s.advanceTimer x).advanceTimer y).readByte w = (s.advanceTimer (x + y)).readByte w) ∧
    ((s.advanceTimer x).advanceTimer y).divAcc = (s.advanceTimer (x + y)).divAcc ∧
    ((s.advanceTimer x).advanceTimer y).timaAcc = (s.advanceTimer (x + y)).timaAcc

/-- The Timer writes DIV, TIMA, its accumulators and, in IF, at most bit 2. It clears no request, and changes no
other byte and no field of CORE. -/
def Obligations.TimerWritesOnlyItsOwn : Prop :=
  ∀ (s : State) (clk : Nat),
    (∀ y : Word, y ≠ 0xFF04 → y ≠ 0xFF05 → y ≠ 0xFF0F → (s.advanceTimer clk).readByte y = s.readByte y) ∧
    ((s.advanceTimer clk).readByte 0xFF0F = s.readByte 0xFF0F ∨
      (s.advanceTimer clk).readByte 0xFF0F = s.readByte 0xFF0F ||| 0x04) ∧
    { s.advanceTimer clk with mem := s.mem, divAcc := s.divAcc, timaAcc := s.timaAcc } = s

/-! ### Interrupts -/

/-- Interrupt entry for bit `k`: IF bit `k` is cleared, then PC is pushed, high byte first; `ime`, `ime_pending`
and `halted` are cleared and PC goes to 0x0040 + 8k. Nothing else changes. The dispatcher is the spec's decision
D23. -/
def Obligations.InterruptEntrySavesPCAndMasks : Prop :=
  ∀ (s : State) (k : Nat), k < 5 →
    (∃ u v : State, u.cfg = s.cfg ∧ v.cfg = s.cfg ∧
      BusWrite s 0xFF0F (s.readByte 0xFF0F &&& ~~~(1#8 <<< k)) u ∧
      BusWrite u (s.sp - 1) (hiByte s.pc) v ∧ BusWrite v (s.sp - 2) (loByte s.pc) (s.enterInterrupt k)) ∧
    (s.enterInterrupt k).exceptMemory s =
      { s with sp := s.sp - 2, pc := BitVec.ofNat 16 (0x0040 + 8 * k), ime := false, imePending := false,
               halted := false }

/-- The interrupt check: with no pending enabled request it changes nothing; with one it ends Halted, whatever
`ime` is; with `ime` set as well it enters the lowest-numbered pending bit, counts 5 machine cycles and advances
the Timer by 20 clocks. Without a dispatcher, or in a faulted or stopped state, nothing happens. The dispatcher
is the spec's decision D23. -/
def Obligations.InterruptCheckTakesTheLowestPendingBit : Prop :=
  ∀ s : State,
    let pend := s.readByte 0xFFFF &&& s.readByte 0xFF0F &&& 0x1F
    let woken : State := { s with halted := false }
    (s.cfg.dispatch = .absent → s.interruptCheck = s) ∧
    (s.fault ≠ none → s.interruptCheck = s) ∧
    (s.stopped = true → s.interruptCheck = s) ∧
    (s.cfg.dispatch = .standard → s.Live →
      (pend = 0 → s.interruptCheck = s) ∧
      (pend ≠ 0 → s.ime = false → s.interruptCheck = woken) ∧
      (pend ≠ 0 → s.ime = true → ∃ k : Nat, k < 5 ∧ pend.getLsbD k = true ∧
        (∀ j < k, pend.getLsbD j = false) ∧
        s.interruptCheck =
          ({ woken.enterInterrupt k with cycles := s.cycles + 5 } : State).advanceTimer 20))

/-- A pending enabled request ends Halted in one step, with `ime` clear as well; then no handler is entered and
PC stays at the instruction after HALT. (The Timer can only add a request; the halted state's own requests are
enough.) The spec's decisions D21 to D23. -/
def Obligations.PendingRequestEndsHalted : Prop :=
  ∀ s : State, s.InHalt → s.cfg.dispatch = .standard →
    s.readByte 0xFFFF &&& s.readByte 0xFF0F &&& 0x1F ≠ 0 →
    ∃ t : State, step s = .next t ∧ t.halted = false ∧
      (s.ime = false → t.pc = s.pc ∧ t.sp = s.sp ∧ t.cycles = s.cycles + 1)

/-! ### Reset, invariants, whole-machine rules -/

/-- What reset leaves, for every launch image and all parameters. (`delta` is left out: its value is the model's
choice, log entry 4.) The values of the mode flags, of cycles and of fault are the spec's decision D28. -/
def Obligations.LaunchLeavesTheResetValues : Prop :=
  ∀ (cfg : Config) (image : Memory),
    let s := State.launch cfg image
    s.a = 0x01 ∧ s.f = 0xB0 ∧ s.b = 0x00 ∧ s.c = 0x13 ∧ s.d = 0x00 ∧ s.e = 0xD8 ∧ s.h = 0x01 ∧ s.l = 0x4D ∧
    s.sp = 0xFFFE ∧ s.pc = 0x0100 ∧
    s.halted = false ∧ s.stopped = false ∧ s.ime = false ∧ s.imePending = false ∧
    s.cycles = 0 ∧ s.fault = none ∧ s.fz = true ∧ s.fn = false ∧ s.fh = true ∧ s.fc = true

/-- The reset state meets the invariant of the machine's data, and so does every launch from a canonical image.
-/
def Obligations.ResetMeetsTheInvariant : Prop :=
  State.reset.wf = true ∧
    ∀ (cfg : Config) (image : Memory), image.wf = true → (State.launch cfg image).wf = true

/-- Every step keeps the invariant: memory stays canonical, bits 3 to 0 of F stay 0 (R24), the Timer's
accumulators stay in their ranges (R530). -/
def Obligations.StepKeepsTheInvariant : Prop :=
  ∀ s t : State, s.wf = true → step s = .next t → t.wf = true

/-- ROM is never changed: no step, whatever it runs, changes a byte below `P_ROM_END`. (The addresses from
0xFF04 up are left out, since the Timer writes its registers directly; the default boundary is far below.) -/
def Obligations.NoStepChangesROM : Prop :=
  ∀ (s t : State) (y : Word), step s = .next t → y.toNat < s.cfg.romEnd → y.toNat < 0xFF04 →
    t.readByte y = s.readByte y

/-- No step changes the parameters (R9: they are arguments of the model; that they stand in `State.cfg` is the
model's choice, log entry 2), and no step records `InvalidOperandIndex`: what a step records is an unprefixed
`UnimplementedOpcode` at the PC where it began. The record is the spec's decision D10. -/
def Obligations.NoStepRecordsInvalidOperandIndex : Prop :=
  ∀ s t : State, step s = .next t → t.cfg = s.cfg ∧
    ∀ r : FaultRecord, t.fault = some r → r.kind = .unimplementedOpcode ∧ r.prefixed = false ∧ r.pc = s.pc

/-- Who writes `ime`: a step sets it only by RETI or by an EI one step earlier, and clears it only by DI or by
interrupt entry at its end: the dispatcher took, from the state `v` before the check, whose `ime` was set, the
lowest source `k` with both its IE and its IF bit set, counted 5 machine cycles, pushed PC and went to the vector.
The dispatcher is the spec's decision D23. -/
def Obligations.OnlyEiDiRetiAndEntryWriteIme : Prop :=
  ∀ s t : State, step s = .next t →
    (t.ime = true → s.ime = true ∨ (s.Running ∧ (s.fetchInstr = .reti ∨ s.imePending = true))) ∧
    (t.ime = false → s.ime = true →
      (s.Running ∧ s.fetchInstr = .di) ∨
      (∃ (v : State) (k : Nat), EntersInterrupt v k t ∧ v.cfg = s.cfg ∧ v.cycles = s.cycles + t.delta ∧
        t.cycles = s.cycles + t.delta + 5 ∧ t.sp = v.sp - 2 ∧ t.pc = BitVec.ofNat 16 (0x0040 + 8 * k)))

/-- Who enters Halted and Stopped: only HALT and STOP. -/
def Obligations.OnlyHaltAndStopLeaveRunning : Prop :=
  ∀ s t : State, s.Running → step s = .next t →
    (t.halted = true → s.fetchInstr = .halt) ∧ (t.stopped = true → ∃ b : Option Byte, s.fetchInstr = .stop b)

/-! ### Memory, registers, flags, operands -/

/-- The memory component: reads have no side effect (a read is a function of the state); a write below
`P_ROM_END` has no effect, a write of any value to DIV sets it and `div_acc` to 0, every other write stores the
byte, and every other byte reads as before. Nothing else of the state changes. The memory component is the
spec's decisions D5 and D26. -/
def Obligations.WriteByteStoresResetsDivOrIsDropped : Prop :=
  ∀ (s : State) (x : Word) (v : Byte),
    (x.toNat < s.cfg.romEnd → s.writeByte x v = s) ∧
    (s.cfg.romEnd ≤ x.toNat →
      (s.writeByte x v).readByte x = (if x = 0xFF04 then 0x00 else v) ∧
      (s.writeByte x v).divAcc = (if x = 0xFF04 then 0 else s.divAcc)) ∧
    (∀ y : Word, y ≠ x → (s.writeByte x v).readByte y = s.readByte y) ∧
    (s.writeByte x v).exceptMemory s = s

/-- The eight 8-bit fields and the views on them: a pair is its high register followed by its low one; writing a
register or a pair gives it that value and leaves the others alone; F reads with its low nibble 0. -/
def Obligations.RegistersAndTheirPairViews : Prop :=
  ∀ (s : State) (r r' : Reg8) (p p' : Pair) (v : Byte) (w : Word),
    (s.setReg8 r v).reg8 r' = (if r' = r then v else s.reg8 r') ∧
    { s.setReg8 r v with a := s.a, b := s.b, c := s.c, d := s.d, e := s.e, h := s.h, l := s.l } = s ∧
    s.pair .bc = s.b ++ s.c ∧ s.pair .de = s.d ++ s.e ∧ s.pair .hl = s.h ++ s.l ∧ s.pair .sp = s.sp ∧
    s.stackPair .bc = s.b ++ s.c ∧ s.stackPair .de = s.d ++ s.e ∧ s.stackPair .hl = s.h ++ s.l ∧
    s.stackPair .af = s.a ++ (s.f &&& 0xF0#8) ∧
    (s.setPair p w).pair p' = (if p' = p then w else s.pair p') ∧
    { s.setPair p w with b := s.b, c := s.c, d := s.d, e := s.e, h := s.h, l := s.l, sp := s.sp } = s ∧
    (s.setStackPair .af w).a = hiByte w ∧ (s.setStackPair .af w).f = loByte w &&& 0xF0#8 ∧
    (hiByte w).toNat = w.toNat / 256 ∧ (loByte w).toNat = w.toNat % 256 ∧
    s.src8 (.reg r) = s.reg8 r ∧ s.src8 .atHL = s.readByte (s.h ++ s.l) ∧
    s.dst8 (.reg r) v = s.setReg8 r v ∧ s.dst8 .atHL v = s.writeByte (s.h ++ s.l) v

/-- The flag byte: Z, N, H, C are bits 7, 6, 5, 4 and bits 3 to 0 are zero; and the four conditions read Z and C
as they stand in F. The places of the four bits are the spec's decision D7. -/
def Obligations.FlagByteLayoutAndConditions : Prop :=
  ∀ (s : State) (z n h c : Bool),
    (s.setFlags z n h c).fz = z ∧ (s.setFlags z n h c).fn = n ∧ (s.setFlags z n h c).fh = h ∧
    (s.setFlags z n h c).fc = c ∧ (flagByte z n h c).toNat % 16 = 0 ∧
    s.fz = s.f.getLsbD 7 ∧ s.fn = s.f.getLsbD 6 ∧ s.fh = s.f.getLsbD 5 ∧ s.fc = s.f.getLsbD 4 ∧
    s.cond .nz = !s.fz ∧ s.cond .z = s.fz ∧ s.cond .nc = !s.fc ∧ s.cond .c = s.fc

/-! ### Loads, stores, stack (45_load_store.md) -/

/-- LD r,r' (49 opcodes 0b01yyyzzz), LD r,n (7 opcodes 0b00yyy110) and LD r,(HL) (7 opcodes 0b01yyy110), the
last reading at the old HL. -/
def Obligations.LoadsToARegister : Prop :=
  ∀ (r r' : Reg8) (n b1 b2 : Byte) (s : State),
    let ldRROp : Byte := 0x40#8 ||| r.code <<< 3 ||| r'.code
    let ldRNOp : Byte := 0x06#8 ||| r.code <<< 3
    let ldRHLOp : Byte := 0x46#8 ||| r.code <<< 3
    exec (s.decodeBytes ldRROp b1 b2) s =
      .next { s.setReg8 r (s.reg8 r') with pc := s.pc + 1, delta := s.ruleCost ldRROp 1 } ∧
    exec (s.decodeBytes ldRNOp n b2) s =
      .next { s.setReg8 r n with pc := s.pc + 2, delta := s.ruleCost ldRNOp 2 } ∧
    exec (s.decodeBytes ldRHLOp b1 b2) s =
      .next { s.setReg8 r (s.readByte (s.h ++ s.l)) with pc := s.pc + 1, delta := s.ruleCost ldRHLOp 2 }

/-- LD (HL),r (7 opcodes 0b01110zzz) and LD (HL),n (0x36): one bus write at HL, and nothing else but PC and
`delta`. -/
def Obligations.StoresAtHL : Prop :=
  ∀ (r : Reg8) (n b1 b2 : Byte) (s : State),
    let ldHLROp : Byte := 0x70#8 ||| r.code
    (∃ t : State, exec (s.decodeBytes ldHLROp b1 b2) s = .next t ∧
      BusWrite s (s.h ++ s.l) (s.reg8 r) t ∧
      t.exceptMemory s = { s with pc := s.pc + 1, delta := s.ruleCost ldHLROp 2 }) ∧
    (∃ t : State, exec (s.decodeBytes 0x36 n b2) s = .next t ∧
      BusWrite s (s.h ++ s.l) n t ∧ t.exceptMemory s = { s with pc := s.pc + 2, delta := s.ruleCost 0x36 3 })

/-- The loads of A: LD A,(BC) 0x0A, LD A,(DE) 0x1A, LD A,(nn) 0xFA, LDH A,(n) 0xF0, LD A,(C) 0xF2. -/
def Obligations.LoadsToTheAccumulator : Prop :=
  ∀ (n lo hi b1 b2 : Byte) (s : State),
    exec (s.decodeBytes 0x0A b1 b2) s =
      .next { s with a := s.readByte (s.b ++ s.c), pc := s.pc + 1, delta := s.ruleCost 0x0A 2 } ∧
    exec (s.decodeBytes 0x1A b1 b2) s =
      .next { s with a := s.readByte (s.d ++ s.e), pc := s.pc + 1, delta := s.ruleCost 0x1A 2 } ∧
    exec (s.decodeBytes 0xFA lo hi) s =
      .next { s with a := s.readByte (hi ++ lo), pc := s.pc + 3, delta := s.ruleCost 0xFA 4 } ∧
    exec (s.decodeBytes 0xF0 n b2) s =
      .next { s with a := s.readByte (BitVec.ofNat 16 (0xFF00 + n.toNat))
                     pc := s.pc + 2, delta := s.ruleCost 0xF0 3 } ∧
    exec (s.decodeBytes 0xF2 b1 b2) s =
      .next { s with a := s.readByte (BitVec.ofNat 16 (0xFF00 + s.c.toNat))
                     pc := s.pc + 1, delta := s.ruleCost 0xF2 2 }

/-- The stores of A: LD (BC),A 0x02, LD (DE),A 0x12, LD (nn),A 0xEA, LDH (n),A 0xE0, LD (C),A 0xE2. -/
def Obligations.StoresOfTheAccumulator : Prop :=
  ∀ (n lo hi b1 b2 : Byte) (s : State),
    (∃ t : State, exec (s.decodeBytes 0x02 b1 b2) s = .next t ∧
      BusWrite s (s.b ++ s.c) s.a t ∧ t.exceptMemory s = { s with pc := s.pc + 1, delta := s.ruleCost 0x02 2 }) ∧
    (∃ t : State, exec (s.decodeBytes 0x12 b1 b2) s = .next t ∧
      BusWrite s (s.d ++ s.e) s.a t ∧ t.exceptMemory s = { s with pc := s.pc + 1, delta := s.ruleCost 0x12 2 }) ∧
    (∃ t : State, exec (s.decodeBytes 0xEA lo hi) s = .next t ∧
      BusWrite s (hi ++ lo) s.a t ∧ t.exceptMemory s = { s with pc := s.pc + 3, delta := s.ruleCost 0xEA 4 }) ∧
    (∃ t : State, exec (s.decodeBytes 0xE0 n b2) s = .next t ∧
      BusWrite s (BitVec.ofNat 16 (0xFF00 + n.toNat)) s.a t ∧
      t.exceptMemory s = { s with pc := s.pc + 2, delta := s.ruleCost 0xE0 3 }) ∧
    (∃ t : State, exec (s.decodeBytes 0xE2 b1 b2) s = .next t ∧
      BusWrite s (BitVec.ofNat 16 (0xFF00 + s.c.toNat)) s.a t ∧
      t.exceptMemory s = { s with pc := s.pc + 1, delta := s.ruleCost 0xE2 2 })

/-- LD A,(HL+) 0x2A, LD A,(HL-) 0x3A, LD (HL+),A 0x22, LD (HL-),A 0x32: the access is at the old HL, and HL
changes by one modulo 2^16 after it, after a dropped store as well. -/
def Obligations.PostModifyingAccesses : Prop :=
  ∀ (b1 b2 : Byte) (s : State),
    let hl : Word := s.h ++ s.l
    exec (s.decodeBytes 0x2A b1 b2) s =
      .next { s with a := s.readByte hl, h := hiByte (hl + 1), l := loByte (hl + 1)
                     pc := s.pc + 1, delta := s.ruleCost 0x2A 2 } ∧
    exec (s.decodeBytes 0x3A b1 b2) s =
      .next { s with a := s.readByte hl, h := hiByte (hl - 1), l := loByte (hl - 1)
                     pc := s.pc + 1, delta := s.ruleCost 0x3A 2 } ∧
    (∃ t : State, exec (s.decodeBytes 0x22 b1 b2) s = .next t ∧ BusWrite s hl s.a t ∧
      t.exceptMemory s =
        { s with h := hiByte (hl + 1), l := loByte (hl + 1), pc := s.pc + 1, delta := s.ruleCost 0x22 2 }) ∧
    (∃ t : State, exec (s.decodeBytes 0x32 b1 b2) s = .next t ∧ BusWrite s hl s.a t ∧
      t.exceptMemory s =
        { s with h := hiByte (hl - 1), l := loByte (hl - 1), pc := s.pc + 1, delta := s.ruleCost 0x32 2 })

/-- LD rr,nn (4 opcodes 0b00pp0001), LD SP,HL 0xF9, and LD (nn),SP 0x08, which writes the low byte at nn and
then the high byte at nn+1. -/
def Obligations.SixteenBitLoads : Prop :=
  ∀ (p : Pair) (lo hi b1 b2 : Byte) (s : State),
    let ldPNOp : Byte := 0x01#8 ||| p.code <<< 4
    exec (s.decodeBytes ldPNOp lo hi) s =
      .next { s.setPair p (hi ++ lo) with pc := s.pc + 3, delta := s.ruleCost ldPNOp 3 } ∧
    exec (s.decodeBytes 0xF9 b1 b2) s =
      .next { s with sp := s.h ++ s.l, pc := s.pc + 1, delta := s.ruleCost 0xF9 2 } ∧
    (∃ t : State, exec (s.decodeBytes 0x08 lo hi) s = .next t ∧
      BusWrites s (hi ++ lo) (loByte s.sp) ((hi ++ lo) + 1#16) (hiByte s.sp) t ∧
      t.exceptMemory s = { s with pc := s.pc + 3, delta := s.ruleCost 0x08 5 })

/-- PUSH rr (4 opcodes 0b11pp0101) writes the high byte at SP-1, then the low byte at SP-2; POP rr (4 opcodes
0b11pp0001) reads the low byte at SP and the high byte at SP+1, and POP AF drops bits 3 to 0 of F. -/
def Obligations.PushAndPop : Prop :=
  ∀ (p : StackPair) (b1 b2 : Byte) (s : State),
    let pushOp : Byte := 0xC5#8 ||| p.code <<< 4
    let popOp : Byte := 0xC1#8 ||| p.code <<< 4
    (∃ t : State, exec (s.decodeBytes pushOp b1 b2) s = .next t ∧
      BusWrites s (s.sp - 1) (hiByte (s.stackPair p)) (s.sp - 2) (loByte (s.stackPair p)) t ∧
      t.exceptMemory s = { s with sp := s.sp - 2, pc := s.pc + 1, delta := s.ruleCost pushOp 4 }) ∧
    (let hi := s.readByte (s.sp + 1)
     let lo := s.readByte s.sp
     exec (s.decodeBytes popOp b1 b2) s =
      .next (match p with
        | .bc => { s with b := hi, c := lo, sp := s.sp + 2, pc := s.pc + 1, delta := s.ruleCost popOp 3 }
        | .de => { s with d := hi, e := lo, sp := s.sp + 2, pc := s.pc + 1, delta := s.ruleCost popOp 3 }
        | .hl => { s with h := hi, l := lo, sp := s.sp + 2, pc := s.pc + 1, delta := s.ruleCost popOp 3 }
        | .af => { s with a := hi, f := lo &&& 0xF0#8, sp := s.sp + 2
                          pc := s.pc + 1, delta := s.ruleCost popOp 3 }))

/-- PUSH of one pair and POP of another (or the same) moves the value, and SP comes back, where both stack bytes
are plain RAM. R432 says "at or above `P_ROM_END`"; DIV, where R68 keeps no value written, is left out too. -/
def Obligations.PopAfterPushMovesTheValue : Prop :=
  ∀ (p q : StackPair) (b1 b2 : Byte) (s t : State),
    let pushOp : Byte := 0xC5#8 ||| p.code <<< 4
    let popOp : Byte := 0xC1#8 ||| q.code <<< 4
    s.cfg.romEnd ≤ (s.sp - 1).toNat → s.cfg.romEnd ≤ (s.sp - 2).toNat →
    s.sp - 1 ≠ 0xFF04 → s.sp - 2 ≠ 0xFF04 →
    exec (s.decodeBytes pushOp b1 b2) s = .next t →
    ∃ u : State, exec (t.decodeBytes popOp b1 b2) t = .next u ∧ u.sp = s.sp ∧
      u.stackPair q = if q = .af then s.stackPair p &&& 0xFFF0 else s.stackPair p

/-! ### 8-bit arithmetic and logic (40_alu8.md) -/

/-- ADD A,s (0x80 to 0x87, 0xC6) and ADC A,s (0x88 to 0x8F, 0xCE), for every operand: the sum modulo 256, Z from
it, N = 0, H the carry out of bit 3, C the carry out of bit 7. -/
def Obligations.AddAndAdcSumAndFlags : Prop :=
  ∀ (o : Operand8) (n b1 b2 : Byte) (s : State),
    let addOp : Byte := 0x80#8 ||| o.code
    let adcOp : Byte := 0x88#8 ||| o.code
    let after := fun (v : Byte) (cin : Nat) (len : Word) (cost : Nat) =>
      ({ s with
          a := BitVec.ofNat 8 (s.a.toNat + v.toNat + cin)
          f := flagByte (decide ((s.a.toNat + v.toNat + cin) % 256 = 0)) false
            (decide (s.a.toNat % 16 + v.toNat % 16 + cin > 15)) (decide (s.a.toNat + v.toNat + cin > 255))
          pc := s.pc + len
          delta := cost } : State)
    exec (s.decodeBytes addOp b1 b2) s = .next (after (s.src8 o) 0 1 (s.ruleCost addOp (o.cost 1 2))) ∧
    exec (s.decodeBytes 0xC6 n b2) s = .next (after n 0 2 (s.ruleCost 0xC6 2)) ∧
    exec (s.decodeBytes adcOp b1 b2) s = .next (after (s.src8 o) s.fc.toNat 1 (s.ruleCost adcOp (o.cost 1 2))) ∧
    exec (s.decodeBytes 0xCE n b2) s = .next (after n s.fc.toNat 2 (s.ruleCost 0xCE 2))

/-- SUB s (0x90 to 0x97, 0xD6), SBC A,s (0x98 to 0x9F, 0xDE) and CP s (0xB8 to 0xBF, 0xFE): the difference
modulo 256, Z from it, N = 1, H and C the borrows; CP writes the flags of SUB and not A. -/
def Obligations.SubSbcAndCpDifferenceAndFlags : Prop :=
  ∀ (o : Operand8) (n b1 b2 : Byte) (s : State),
    let subOp : Byte := 0x90#8 ||| o.code
    let sbcOp : Byte := 0x98#8 ||| o.code
    let cpOp : Byte := 0xB8#8 ||| o.code
    let after := fun (write : Bool) (v : Byte) (cin : Nat) (len : Word) (cost : Nat) =>
      ({ s with
          a := if write then BitVec.ofInt 8 ((s.a.toNat : Int) - v.toNat - cin) else s.a
          f := flagByte (decide (((s.a.toNat : Int) - v.toNat - cin) % 256 = 0)) true
            (decide (s.a.toNat % 16 < v.toNat % 16 + cin)) (decide (v.toNat + cin > s.a.toNat))
          pc := s.pc + len
          delta := cost } : State)
    exec (s.decodeBytes subOp b1 b2) s = .next (after true (s.src8 o) 0 1 (s.ruleCost subOp (o.cost 1 2))) ∧
    exec (s.decodeBytes 0xD6 n b2) s = .next (after true n 0 2 (s.ruleCost 0xD6 2)) ∧
    exec (s.decodeBytes sbcOp b1 b2) s =
      .next (after true (s.src8 o) s.fc.toNat 1 (s.ruleCost sbcOp (o.cost 1 2))) ∧
    exec (s.decodeBytes 0xDE n b2) s = .next (after true n s.fc.toNat 2 (s.ruleCost 0xDE 2)) ∧
    exec (s.decodeBytes cpOp b1 b2) s = .next (after false (s.src8 o) 0 1 (s.ruleCost cpOp (o.cost 1 2))) ∧
    exec (s.decodeBytes 0xFE n b2) s = .next (after false n 0 2 (s.ruleCost 0xFE 2))

/-- AND s (0xA0 to 0xA7, 0xE6), XOR s (0xA8 to 0xAF, 0xEE) and OR s (0xB0 to 0xB7, 0xF6): Z from the result, N =
0, C = 0, H = 1 for AND and 0 for the others. -/
def Obligations.LogicResultsAndFlags : Prop :=
  ∀ (o : Operand8) (n b1 b2 : Byte) (s : State),
    let andOp : Byte := 0xA0#8 ||| o.code
    let xorOp : Byte := 0xA8#8 ||| o.code
    let orOp : Byte := 0xB0#8 ||| o.code
    let after := fun (res : Byte) (h : Bool) (len : Word) (cost : Nat) =>
      ({ s with
          a := res
          f := flagByte (decide (res = 0)) false h false
          pc := s.pc + len
          delta := cost } : State)
    exec (s.decodeBytes andOp b1 b2) s = .next (after (s.a &&& s.src8 o) true 1 (s.ruleCost andOp (o.cost 1 2))) ∧
    exec (s.decodeBytes 0xE6 n b2) s = .next (after (s.a &&& n) true 2 (s.ruleCost 0xE6 2)) ∧
    exec (s.decodeBytes xorOp b1 b2) s =
      .next (after (s.a ^^^ s.src8 o) false 1 (s.ruleCost xorOp (o.cost 1 2))) ∧
    exec (s.decodeBytes 0xEE n b2) s = .next (after (s.a ^^^ n) false 2 (s.ruleCost 0xEE 2)) ∧
    exec (s.decodeBytes orOp b1 b2) s = .next (after (s.a ||| s.src8 o) false 1 (s.ruleCost orOp (o.cost 1 2))) ∧
    exec (s.decodeBytes 0xF6 n b2) s = .next (after (s.a ||| n) false 2 (s.ruleCost 0xF6 2))

/-- INC and DEC of a register or of the byte at HL (opcodes 0b00yyy100 and 0b00yyy101): the value modulo 256, Z
from it, N, H the wrap of the low nibble, C kept. -/
def Obligations.IncAndDecOfAByte : Prop :=
  ∀ (o : Operand8) (b1 b2 : Byte) (s : State),
    let incOp : Byte := 0x04#8 ||| o.code <<< 3
    let decOp : Byte := 0x05#8 ||| o.code <<< 3
    let v := s.src8 o
    (∃ t : State, exec (s.decodeBytes incOp b1 b2) s = .next t ∧
      WritesOperand s o (v + 1) (fun u => { u with
        f := flagByte (decide (v = 0xFF)) false (decide (v.toNat % 16 = 15)) s.fc
        pc := s.pc + 1, delta := s.ruleCost incOp (o.cost 1 3) }) t) ∧
    (∃ t : State, exec (s.decodeBytes decOp b1 b2) s = .next t ∧
      WritesOperand s o (v - 1) (fun u => { u with
        f := flagByte (decide (v = 0x01)) true (decide (v.toNat % 16 = 0)) s.fc
        pc := s.pc + 1, delta := s.ruleCost decOp (o.cost 1 3) }) t)

/-- INC then DEC, and DEC then INC, of a register: the value comes back and C is kept; the flags are those of
the second instruction alone. -/
def Obligations.IncAndDecUndoEachOther : Prop :=
  ∀ (r : Reg8) (b1 b2 : Byte) (s : State),
    let incOp : Byte := 0x04#8 ||| r.code <<< 3
    let decOp : Byte := 0x05#8 ||| r.code <<< 3
    (∃ t u : State, exec (s.decodeBytes incOp b1 b2) s = .next t ∧
      exec (t.decodeBytes decOp b1 b2) t = .next u ∧
      u = { s with
        pc := s.pc + 2
        delta := s.ruleCost decOp 1
        f := flagByte (decide (s.reg8 r = 0)) true (decide ((s.reg8 r).toNat % 16 = 15)) s.fc }) ∧
    (∃ t u : State, exec (s.decodeBytes decOp b1 b2) s = .next t ∧
      exec (t.decodeBytes incOp b1 b2) t = .next u ∧
      u = { s with
        pc := s.pc + 2
        delta := s.ruleCost incOp 1
        f := flagByte (decide (s.reg8 r = 0)) false (decide ((s.reg8 r).toNat % 16 = 0)) s.fc })

/-- DAA (0x27), as the spec's algorithm: the correction is decided on A before it, subtracted after a
subtraction and added otherwise; Z from the result, N kept, H = 0, C the old one after a subtraction and 1 with
a high correction otherwise. The algorithm is the spec's decision D16. -/
def Obligations.DaaCorrectsByTheAlgorithm : Prop :=
  ∀ (b1 b2 : Byte) (s : State),
    let a : Int := s.a.toNat
    let low : Int := if s.fn = true then (if s.fh = true then 0x06 else 0)
      else (if s.fh = true ∨ a % 16 > 9 then 0x06 else 0)
    let high : Int := if s.fn = true then (if s.fc = true then 0x60 else 0)
      else (if s.fc = true ∨ a > 0x99 then 0x60 else 0)
    let res : Int := (if s.fn = true then a - (low + high) else a + (low + high)) % 256
    exec (s.decodeBytes 0x27 b1 b2) s =
      .next { s with
        a := BitVec.ofInt 8 res
        f := flagByte (decide (res = 0)) s.fn false (decide (high = 0x60))
        pc := s.pc + 1
        delta := s.ruleCost 0x27 1 }

/-- What DAA is for: after the addition, or the subtraction, of two two-digit decimal numbers in packed BCD, A
holds the two digits of the sum, or of the difference modulo 100, and C says whether there was a decimal carry
or borrow. -/
def Obligations.DaaMakesDecimalSumsAndDifferences : Prop :=
  ∀ (x y : Nat) (b1 b2 : Byte) (s : State), x < 100 → y < 100 → s.a = bcd x →
    (∃ t u : State, exec (s.decodeBytes 0xC6 (bcd y) b2) s = .next t ∧
      exec (t.decodeBytes 0x27 b1 b2) t = .next u ∧
      u.a = bcd ((x + y) % 100) ∧ u.fc = decide (100 ≤ x + y) ∧ u.fz = decide ((x + y) % 100 = 0)) ∧
    (∃ t u : State, exec (s.decodeBytes 0xD6 (bcd y) b2) s = .next t ∧
      exec (t.decodeBytes 0x27 b1 b2) t = .next u ∧
      u.a = bcd ((100 + x - y) % 100) ∧ u.fc = decide (x < y) ∧ u.fz = decide (x = y))

/-- CPL 0x2F, CCF 0x3F, SCF 0x37: which flags they write and which they keep. Which flags are kept is the spec's
decision D15. -/
def Obligations.CplCcfAndScf : Prop :=
  ∀ (b1 b2 : Byte) (s : State),
    exec (s.decodeBytes 0x2F b1 b2) s =
      .next { s with a := ~~~s.a, f := flagByte s.fz true true s.fc
                     pc := s.pc + 1, delta := s.ruleCost 0x2F 1 } ∧
    exec (s.decodeBytes 0x3F b1 b2) s =
      .next { s with f := flagByte s.fz false false (!s.fc), pc := s.pc + 1, delta := s.ruleCost 0x3F 1 } ∧
    exec (s.decodeBytes 0x37 b1 b2) s =
      .next { s with f := flagByte s.fz false false true, pc := s.pc + 1, delta := s.ruleCost 0x37 1 }

/-! ### 16-bit arithmetic (41_alu16.md) -/

/-- ADD HL,rr (4 opcodes 0b00pp1001): the sum modulo 2^16, Z kept, N = 0, H the carry out of bit 11, C out of
bit 15. INC rr (0b00pp0011) and DEC rr (0b00pp1011): the value modulo 2^16, no flag. Which flags are written is
the spec's decision D11. -/
def Obligations.SixteenBitAddIncAndDec : Prop :=
  ∀ (p : Pair) (b1 b2 : Byte) (s : State),
    let addHLOp : Byte := 0x09#8 ||| p.code <<< 4
    let incOp : Byte := 0x03#8 ||| p.code <<< 4
    let decOp : Byte := 0x0B#8 ||| p.code <<< 4
    let hl := (s.pair .hl).toNat
    let v := (s.pair p).toNat
    exec (s.decodeBytes addHLOp b1 b2) s =
      .next { s.setPair .hl (BitVec.ofNat 16 (hl + v)) with
        f := flagByte s.fz false (decide (hl % 4096 + v % 4096 > 4095)) (decide (hl + v > 65535))
        pc := s.pc + 1
        delta := s.ruleCost addHLOp 2 } ∧
    exec (s.decodeBytes incOp b1 b2) s =
      .next { s.setPair p (BitVec.ofNat 16 (v + 1)) with pc := s.pc + 1, delta := s.ruleCost incOp 2 } ∧
    exec (s.decodeBytes decOp b1 b2) s =
      .next { s.setPair p (BitVec.ofNat 16 (v + 65535)) with pc := s.pc + 1, delta := s.ruleCost decOp 2 }

/-- ADD SP,e 0xE8 and LD HL,SP+e 0xF8: SP plus the signed displacement, modulo 2^16; Z = N = 0, H and C the
carries out of bits 3 and 7 of the unsigned low-byte add. Z = 0 and the bit positions are the spec's decision
D12. -/
def Obligations.StackPointerPlusDisplacement : Prop :=
  ∀ (e b2 : Byte) (s : State),
    let res := BitVec.ofInt 16 ((s.sp.toNat : Int) + e.toInt)
    let flags := flagByte false false (decide (s.sp.toNat % 16 + e.toNat % 16 > 15))
      (decide (s.sp.toNat % 256 + e.toNat > 255))
    exec (s.decodeBytes 0xE8 e b2) s =
      .next { s with sp := res, f := flags, pc := s.pc + 2, delta := s.ruleCost 0xE8 4 } ∧
    exec (s.decodeBytes 0xF8 e b2) s =
      .next { s with h := hiByte res, l := loByte res, f := flags, pc := s.pc + 2, delta := s.ruleCost 0xF8 3 }

/-! ### Rotates, shifts, bits (42_rotate_shift_bit.md) -/

/-- RLCA 0x07, RRCA 0x0F, RLA 0x17, RRA 0x1F: the rotated accumulator; Z, N and H are 0 whatever the result, C
is the bit that left. Z = 0 is the spec's decision D13. -/
def Obligations.AccumulatorRotatesClearZ : Prop :=
  ∀ (b1 b2 : Byte) (s : State),
    let after := fun (op : RotOp) (opcode : Byte) =>
      ({ s with
          a := BitVec.ofNat 8 (rotateValue op s.a.toNat s.fc.toNat)
          f := flagByte false false false (rotateOut op s.a.toNat)
          pc := s.pc + 1
          delta := s.ruleCost opcode 1 } : State)
    exec (s.decodeBytes 0x07 b1 b2) s = .next (after .rlc 0x07) ∧
    exec (s.decodeBytes 0x0F b1 b2) s = .next (after .rrc 0x0F) ∧
    exec (s.decodeBytes 0x17 b1 b2) s = .next (after .rl 0x17) ∧
    exec (s.decodeBytes 0x1F b1 b2) s = .next (after .rr 0x1F)

/-- The 64 extended rotates, shifts and swaps (0xCB 0b00yyyzzz): the result goes back to the operand; Z from it,
N = 0, H = 0, C the bit that left (0 for SWAP); by default 2 cycles on a register, 4 on (HL). N = H = 0 is the spec's
decision D14. -/
def Obligations.ExtendedRotatesAndShifts : Prop :=
  ∀ (op : RotOp) (o : Operand8) (b2 : Byte) (s : State),
    let op2Op : Byte := op.code <<< 3 ||| o.code
    let v := (s.src8 o).toNat
    let res := rotateValue op v s.fc.toNat
    ∃ t : State, exec (s.decodeBytes 0xCB op2Op b2) s = .next t ∧
      WritesOperand s o (BitVec.ofNat 8 res) (fun u => { u with
        f := flagByte (decide (res = 0)) false false (rotateOut op v)
        pc := s.pc + 2, delta := s.ruleCostCB op2Op (o.cost 2 4) }) t

/-- BIT b,s (0xCB 0b01bbbzzz) tests bit b into Z with N = 0, H = 1, C kept, and writes no operand; RES b,s
(0b10bbbzzz) and SET b,s (0b11bbbzzz) clear and set bit b of the operand, leave its other bits, and write no
flag. -/
def Obligations.BitResAndSet : Prop :=
  ∀ (b : Fin 8) (o : Operand8) (b2 : Byte) (s : State),
    let v := s.src8 o
    let field := BitVec.ofNat 8 (8 * b.val) ||| o.code
    let bitOp : Byte := 0x40#8 ||| field
    let resOp : Byte := 0x80#8 ||| field
    let setOp : Byte := 0xC0#8 ||| field
    exec (s.decodeBytes 0xCB bitOp b2) s =
      .next { s with
        f := flagByte (!v.getLsbD b.val) false true s.fc
        pc := s.pc + 2
        delta := s.ruleCostCB bitOp (o.cost 2 3) } ∧
    (∃ (w : Byte) (t : State), (∀ k < 8, w.getLsbD k = if k = b.val then false else v.getLsbD k) ∧
      exec (s.decodeBytes 0xCB resOp b2) s = .next t ∧
      WritesOperand s o w (fun u => { u with pc := s.pc + 2, delta := s.ruleCostCB resOp (o.cost 2 4) }) t) ∧
    (∃ (w : Byte) (t : State), (∀ k < 8, w.getLsbD k = if k = b.val then true else v.getLsbD k) ∧
      exec (s.decodeBytes 0xCB setOp b2) s = .next t ∧
      WritesOperand s o w (fun u => { u with pc := s.pc + 2, delta := s.ruleCostCB setOp (o.cost 2 4) }) t)

/-! ### Control transfer (43_control_flow.md) -/

/-- JP nn 0xC3, JP cc,nn (4 opcodes 0b110cc010), JP HL 0xE9, JR e 0x18, JR cc,e (4 opcodes 0b001cc000): the
target, or the address after the instruction where the condition fails, with the cost of either path. The
not-taken path is the spec's decision D18. -/
def Obligations.JumpsTakenAndNotTaken : Prop :=
  ∀ (cc : Cond) (lo hi e b1 b2 : Byte) (s : State),
    let jpIfOp : Byte := 0xC2#8 ||| cc.code <<< 3
    let jrIfOp : Byte := 0x20#8 ||| cc.code <<< 3
    let target := BitVec.ofInt 16 ((s.pc.toNat : Int) + 2 + e.toInt)
    exec (s.decodeBytes 0xC3 lo hi) s = .next { s with pc := hi ++ lo, delta := s.ruleCost 0xC3 4 } ∧
    exec (s.decodeBytes jpIfOp lo hi) s =
      .next (if s.cond cc = true then { s with pc := hi ++ lo, delta := s.ruleCostIf jpIfOp true 4 }
        else { s with pc := s.pc + 3, delta := s.ruleCostIf jpIfOp false 3 }) ∧
    exec (s.decodeBytes 0xE9 b1 b2) s = .next { s with pc := s.h ++ s.l, delta := s.ruleCost 0xE9 1 } ∧
    exec (s.decodeBytes 0x18 e b2) s = .next { s with pc := target, delta := s.ruleCost 0x18 3 } ∧
    exec (s.decodeBytes jrIfOp e b2) s =
      .next (if s.cond cc = true then { s with pc := target, delta := s.ruleCostIf jrIfOp true 3 }
        else { s with pc := s.pc + 2, delta := s.ruleCostIf jrIfOp false 2 })

/-- CALL nn 0xCD, CALL cc,nn (4 opcodes 0b110cc100) and RST t (8 opcodes 0b11ttt111): the address after the
instruction is pushed, high byte first, and PC goes to the target; a CALL whose condition fails pushes nothing.
-/
def Obligations.CallsAndRestartsPushTheReturnAddress : Prop :=
  ∀ (cc : Cond) (k : Fin 8) (lo hi b1 b2 : Byte) (s : State),
    let callIfOp : Byte := 0xC4#8 ||| cc.code <<< 3
    let rstOp : Byte := 0xC7#8 ||| BitVec.ofNat 8 (8 * k.val)
    let pushes := fun (len target : Word) (cost : Nat) (t : State) =>
      BusWrites s (s.sp - 1) (hiByte (s.pc + len)) (s.sp - 2) (loByte (s.pc + len)) t ∧
      t.exceptMemory s = { s with sp := s.sp - 2, pc := target, delta := cost }
    (∃ t : State, exec (s.decodeBytes 0xCD lo hi) s = .next t ∧ pushes 3 (hi ++ lo) (s.ruleCost 0xCD 6) t) ∧
    (∃ t : State, exec (s.decodeBytes callIfOp lo hi) s = .next t ∧
      (s.cond cc = true → pushes 3 (hi ++ lo) (s.ruleCostIf callIfOp true 6) t) ∧
      (s.cond cc = false → t = { s with pc := s.pc + 3, delta := s.ruleCostIf callIfOp false 3 })) ∧
    (∃ t : State, exec (s.decodeBytes rstOp b1 b2) s = .next t ∧
      pushes 1 (BitVec.ofNat 16 (8 * k.val)) (s.ruleCost rstOp 4) t)

/-- RET 0xC9, RET cc (4 opcodes 0b110cc000), RETI 0xD9: the popped PC, low byte first; a RET whose condition
fails leaves SP; RETI sets `ime` in the same step and leaves `ime_pending`. -/
def Obligations.ReturnsPopThePC : Prop :=
  ∀ (cc : Cond) (b1 b2 : Byte) (s : State),
    let retIfOp : Byte := 0xC0#8 ||| cc.code <<< 3
    let popped : Word := s.readByte (s.sp + 1) ++ s.readByte s.sp
    exec (s.decodeBytes 0xC9 b1 b2) s =
      .next { s with sp := s.sp + 2, pc := popped, delta := s.ruleCost 0xC9 4 } ∧
    exec (s.decodeBytes retIfOp b1 b2) s =
      .next (if s.cond cc = true then { s with sp := s.sp + 2
                                               pc := popped, delta := s.ruleCostIf retIfOp true 5 }
        else { s with pc := s.pc + 1, delta := s.ruleCostIf retIfOp false 2 }) ∧
    exec (s.decodeBytes 0xD9 b1 b2) s =
      .next { s with sp := s.sp + 2, pc := popped, ime := true, delta := s.ruleCost 0xD9 4 }

/-- A RET right after a CALL comes back to the address after the CALL with SP as before it, where both stack
bytes are plain RAM. R334 says "at or above `P_ROM_END`"; DIV, where R68 keeps no value written, is left out
too. -/
def Obligations.ReturnAfterCallComesBack : Prop :=
  ∀ (lo hi b1 b2 : Byte) (s t : State),
    s.cfg.romEnd ≤ (s.sp - 1).toNat → s.cfg.romEnd ≤ (s.sp - 2).toNat →
    s.sp - 1 ≠ 0xFF04 → s.sp - 2 ≠ 0xFF04 →
    exec (s.decodeBytes 0xCD lo hi) s = .next t →
    exec (t.decodeBytes 0xC9 b1 b2) t = .next { t with pc := s.pc + 3, sp := s.sp, delta := s.ruleCost 0xC9 4 }

/-! ### CPU control (44_engine.md) -/

/-- NOP 0x00, HALT 0x76, STOP 0x10 (its second byte ignored; its length that of `P_STOP_LEN`), DI 0xF3, EI 0xFB:
each costs 1 by default. The second byte of STOP is the spec's decision D19. -/
def Obligations.CpuControlInstructions : Prop :=
  ∀ (b1 b2 : Byte) (s : State),
    exec (s.decodeBytes 0x00 b1 b2) s = .next { s with pc := s.pc + 1, delta := s.ruleCost 0x00 1 } ∧
    exec (s.decodeBytes 0x76 b1 b2) s =
      .next { s with halted := true, pc := s.pc + 1, delta := s.ruleCost 0x76 1 } ∧
    exec (s.decodeBytes 0x10 b1 b2) s =
      .next { s with stopped := true
                     pc := if s.cfg.stopLen = .two then s.pc + 2 else s.pc + 1, delta := s.ruleCost 0x10 1 } ∧
    exec (s.decodeBytes 0xF3 b1 b2) s =
      .next { s with ime := false, pc := s.pc + 1, delta := s.ruleCost 0xF3 1 } ∧
    exec (s.decodeBytes 0xFB b1 b2) s =
      .next { s with imePending := true, pc := s.pc + 1, delta := s.ruleCost 0xFB 1 }
end

