-- ==== Sys2Proof/Laws/Memory.lean ====
section
/-! SUPPORT. Memory as data: read after write, and the canonical form kept by every memory operation. -/

namespace Sys2Proof.Machine

/-! ### Read after write -/

theorem Memory.get_erase_self (m : Memory) (a : Nat) : (m.erase a).get a = Config.unlistedByte := by
  induction m with
  | nil => rfl
  | cons c rest ih =>
    by_cases h : c.1 = a
    · simpa [Memory.erase, h] using ih
    · simpa [Memory.erase, Memory.get, h] using ih

theorem Memory.get_erase_other (m : Memory) {a x : Nat} (hx : x ≠ a) : (m.erase a).get x = m.get x := by
  induction m with
  | nil => rfl
  | cons c rest ih =>
    by_cases h : c.1 = a
    · have : c.1 ≠ x := fun e => hx (e.symm.trans h)
      simpa [Memory.erase, Memory.get, h, this, Ne.symm hx] using ih
    · by_cases hc : c.1 = x
      · simp [Memory.erase, Memory.get, hc, hx]
      · simpa [Memory.erase, Memory.get, h, hc] using ih

theorem Memory.get_insert_other (m : Memory) {a x : Nat} (v : Byte) (hx : x ≠ a) :
    (m.insert a v).get x = m.get x := by
  induction m with
  | nil => simp [Memory.insert, Memory.get, Ne.symm hx]
  | cons c rest ih =>
    unfold Memory.insert
    split
    · simp [Memory.get, Ne.symm hx]
    · by_cases hc : c.1 = x <;> simp [Memory.get, hc, ih]

theorem Memory.get_insert_self (m : Memory) (a : Nat) (v : Byte) (hm : ∀ c ∈ m, c.1 ≠ a) :
    (m.insert a v).get a = v := by
  induction m with
  | nil => simp [Memory.insert, Memory.get]
  | cons c rest ih =>
    unfold Memory.insert
    split
    · simp [Memory.get]
    · have hc : c.1 ≠ a := hm c (by simp)
      simp [Memory.get, hc, ih (fun d hd => hm d (by simp [hd]))]

theorem Memory.not_mem_erase (m : Memory) (a : Nat) : ∀ c ∈ m.erase a, c.1 ≠ a := by
  intro c hc
  simpa using (List.mem_filter.mp hc).2

/-- A byte read after it was written is the byte written. -/
theorem Memory.get_put_self (m : Memory) (a : Nat) (v : Byte) : (m.put a v).get a = v := by
  unfold Memory.put
  split
  · next h => rw [Memory.get_erase_self, h]
  · exact Memory.get_insert_self _ a v (m.not_mem_erase a)

/-- A write leaves every other address as it was. -/
theorem Memory.get_put_other (m : Memory) {a x : Nat} (v : Byte) (hx : x ≠ a) :
    (m.put a v).get x = m.get x := by
  unfold Memory.put
  split
  · exact m.get_erase_other hx
  · rw [Memory.get_insert_other _ v hx, m.get_erase_other hx]

/-! ### The canonical form -/

theorem Memory.wfFrom_mono {lo lo' : Nat} (h : lo' ≤ lo) {m : Memory} (hm : Memory.wfFrom lo m = true) :
    Memory.wfFrom lo' m = true := by
  cases m with
  | nil => rfl
  | cons c rest =>
    simp only [Memory.wfFrom, Bool.and_eq_true, decide_eq_true_eq] at hm ⊢
    exact ⟨⟨⟨h.trans hm.1.1.1, hm.1.1.2⟩, hm.1.2⟩, hm.2⟩

theorem Memory.erase_wfFrom {lo : Nat} {m : Memory} (a : Nat) (hm : Memory.wfFrom lo m = true) :
    Memory.wfFrom lo (m.erase a) = true := by
  induction m generalizing lo with
  | nil => rfl
  | cons c rest ih =>
    simp only [Memory.wfFrom, Bool.and_eq_true, decide_eq_true_eq] at hm
    by_cases h : c.1 = a
    · have : Memory.erase (c :: rest) a = Memory.erase rest a := by simp [Memory.erase, h]
      rw [this]
      exact Memory.wfFrom_mono (by omega) (ih hm.2)
    · have : Memory.erase (c :: rest) a = c :: Memory.erase rest a := by simp [Memory.erase, h]
      rw [this]
      simp only [Memory.wfFrom, Bool.and_eq_true, decide_eq_true_eq]
      exact ⟨hm.1, ih hm.2⟩

theorem Memory.insert_wfFrom {lo a : Nat} {m : Memory} {v : Byte} (hlo : lo ≤ a) (ha : a < 65536)
    (hv : v ≠ Config.unlistedByte) (hne : ∀ c ∈ m, c.1 ≠ a) (hm : Memory.wfFrom lo m = true) :
    Memory.wfFrom lo (m.insert a v) = true := by
  induction m generalizing lo with
  | nil => simp [Memory.insert, Memory.wfFrom, hlo, ha, hv]
  | cons c rest ih =>
    simp only [Memory.wfFrom, Bool.and_eq_true, decide_eq_true_eq] at hm
    have hc : c.1 ≠ a := hne c (by simp)
    unfold Memory.insert
    split
    · simp only [Memory.wfFrom, Bool.and_eq_true, decide_eq_true_eq]
      exact ⟨⟨⟨hlo, ha⟩, hv⟩, ⟨⟨by omega, hm.1.1.2⟩, hm.1.2⟩, hm.2⟩
    · simp only [Memory.wfFrom, Bool.and_eq_true, decide_eq_true_eq]
      exact ⟨hm.1, ih (by omega) (fun d hd => hne d (by simp [hd])) hm.2⟩

/-- A write keeps the canonical form. -/
theorem Memory.put_wf {m : Memory} {a : Nat} (v : Byte) (ha : a < 65536) (hm : m.wf = true) :
    (m.put a v).wf = true := by
  unfold Memory.put
  split
  · exact Memory.erase_wfFrom a hm
  · next hv =>
    exact Memory.insert_wfFrom (Nat.zero_le a) ha hv (m.not_mem_erase a) (Memory.erase_wfFrom a hm)

theorem Memory.get_of_lt {lo : Nat} {m : Memory} (hm : Memory.wfFrom lo m = true) {x : Nat} (hx : x < lo) :
    m.get x = Config.unlistedByte := by
  induction m generalizing lo with
  | nil => rfl
  | cons c rest ih =>
    simp only [Memory.wfFrom, Bool.and_eq_true, decide_eq_true_eq] at hm
    have : c.1 ≠ x := by omega
    simp only [Memory.get, this, if_false]
    exact ih hm.2 (by omega)

/-- Two canonical memories that read the same everywhere are the same list. -/
theorem Memory.ext_wfFrom {lo : Nat} {m m' : Memory} (hm : Memory.wfFrom lo m = true)
    (hm' : Memory.wfFrom lo m' = true) (h : ∀ x, m.get x = m'.get x) : m = m' := by
  induction m generalizing lo m' with
  | nil =>
    cases m' with
    | nil => rfl
    | cons c rest =>
      simp only [Memory.wfFrom, Bool.and_eq_true, decide_eq_true_eq] at hm'
      exact absurd (h c.1).symm (by simpa [Memory.get] using hm'.1.2)
  | cons c rest ih =>
    have hm0 := hm
    simp only [Memory.wfFrom, Bool.and_eq_true, decide_eq_true_eq] at hm
    cases m' with
    | nil => exact absurd (h c.1) (by simpa [Memory.get] using hm.1.2)
    | cons d rest' =>
      have hm0' := hm'
      simp only [Memory.wfFrom, Bool.and_eq_true, decide_eq_true_eq] at hm'
      have hcd : c.1 = d.1 := by
        rcases Nat.lt_trichotomy c.1 d.1 with hlt | heq | hgt
        · have h1 := h c.1
          have : d.1 ≠ c.1 := by omega
          simp only [Memory.get, if_true, this, if_false] at h1
          rw [Memory.get_of_lt hm'.2 (by omega)] at h1
          exact absurd h1 hm.1.2
        · exact heq
        · have h1 := h d.1
          have : c.1 ≠ d.1 := by omega
          simp only [Memory.get, if_true, this, if_false] at h1
          rw [Memory.get_of_lt hm.2 (by omega)] at h1
          exact absurd h1.symm hm'.1.2
      have hv : c.2 = d.2 := by simpa [Memory.get, hcd] using h c.1
      have hrest : rest = rest' := by
        refine ih hm.2 (hcd ▸ hm'.2) fun x => ?_
        by_cases hx : c.1 = x
        · rw [Memory.get_of_lt hm.2 (by omega), Memory.get_of_lt hm'.2 (by omega)]
        · have := h x
          simpa [Memory.get, hx, hcd ▸ hx] using this
      rw [hrest, Prod.ext hcd hv]

theorem Memory.ext_wf {m m' : Memory} (hm : m.wf = true) (hm' : m'.wf = true)
    (h : ∀ x, m.get x = m'.get x) : m = m' := Memory.ext_wfFrom hm hm' h

end Sys2Proof.Machine
end

