-- ==== Sys2Proof/Laws/State.lean ====
section
/-! SUPPORT. One lemma per field per update of the state: what the update leaves in that field. -/

namespace Sys2Proof.Machine

/-- SP after a push: one and one is two. -/
theorem two_steps_down (w : Word) : w - 1#16 - 1#16 = w - 2#16 := by
  rw [BitVec.sub_sub]; rfl

/-! ### `fetched` -/

@[simp] theorem State.fetched_a (s : State) (n : Nat) : (s.fetched n).a = s.a := (rfl)
@[simp] theorem State.fetched_f (s : State) (n : Nat) : (s.fetched n).f = s.f := (rfl)
@[simp] theorem State.fetched_b (s : State) (n : Nat) : (s.fetched n).b = s.b := (rfl)
@[simp] theorem State.fetched_c (s : State) (n : Nat) : (s.fetched n).c = s.c := (rfl)
@[simp] theorem State.fetched_d (s : State) (n : Nat) : (s.fetched n).d = s.d := (rfl)
@[simp] theorem State.fetched_e (s : State) (n : Nat) : (s.fetched n).e = s.e := (rfl)
@[simp] theorem State.fetched_h (s : State) (n : Nat) : (s.fetched n).h = s.h := (rfl)
@[simp] theorem State.fetched_l (s : State) (n : Nat) : (s.fetched n).l = s.l := (rfl)
@[simp] theorem State.fetched_sp (s : State) (n : Nat) : (s.fetched n).sp = s.sp := (rfl)
@[simp] theorem State.fetched_pc (s : State) (n : Nat) : (s.fetched n).pc = s.pc + BitVec.ofNat 16 n := (rfl)
@[simp] theorem State.fetched_halted (s : State) (n : Nat) : (s.fetched n).halted = s.halted := (rfl)
@[simp] theorem State.fetched_stopped (s : State) (n : Nat) : (s.fetched n).stopped = s.stopped := (rfl)
@[simp] theorem State.fetched_ime (s : State) (n : Nat) : (s.fetched n).ime = s.ime := (rfl)
@[simp] theorem State.fetched_imePending (s : State) (n : Nat) : (s.fetched n).imePending = s.imePending := (rfl)
@[simp] theorem State.fetched_cycles (s : State) (n : Nat) : (s.fetched n).cycles = s.cycles := (rfl)
@[simp] theorem State.fetched_delta (s : State) (n : Nat) : (s.fetched n).delta = s.delta := (rfl)
@[simp] theorem State.fetched_fault (s : State) (n : Nat) : (s.fetched n).fault = s.fault := (rfl)
@[simp] theorem State.fetched_mem (s : State) (n : Nat) : (s.fetched n).mem = s.mem := (rfl)
@[simp] theorem State.fetched_divAcc (s : State) (n : Nat) : (s.fetched n).divAcc = s.divAcc := (rfl)
@[simp] theorem State.fetched_timaAcc (s : State) (n : Nat) : (s.fetched n).timaAcc = s.timaAcc := (rfl)
@[simp] theorem State.fetched_cfg (s : State) (n : Nat) : (s.fetched n).cfg = s.cfg := (rfl)

/-! ### `jump` -/

@[simp] theorem State.jump_a (s : State) (t : Word) : (s.jump t).a = s.a := (rfl)
@[simp] theorem State.jump_f (s : State) (t : Word) : (s.jump t).f = s.f := (rfl)
@[simp] theorem State.jump_b (s : State) (t : Word) : (s.jump t).b = s.b := (rfl)
@[simp] theorem State.jump_c (s : State) (t : Word) : (s.jump t).c = s.c := (rfl)
@[simp] theorem State.jump_d (s : State) (t : Word) : (s.jump t).d = s.d := (rfl)
@[simp] theorem State.jump_e (s : State) (t : Word) : (s.jump t).e = s.e := (rfl)
@[simp] theorem State.jump_h (s : State) (t : Word) : (s.jump t).h = s.h := (rfl)
@[simp] theorem State.jump_l (s : State) (t : Word) : (s.jump t).l = s.l := (rfl)
@[simp] theorem State.jump_sp (s : State) (t : Word) : (s.jump t).sp = s.sp := (rfl)
@[simp] theorem State.jump_pc (s : State) (t : Word) : (s.jump t).pc = t := (rfl)
@[simp] theorem State.jump_halted (s : State) (t : Word) : (s.jump t).halted = s.halted := (rfl)
@[simp] theorem State.jump_stopped (s : State) (t : Word) : (s.jump t).stopped = s.stopped := (rfl)
@[simp] theorem State.jump_ime (s : State) (t : Word) : (s.jump t).ime = s.ime := (rfl)
@[simp] theorem State.jump_imePending (s : State) (t : Word) : (s.jump t).imePending = s.imePending := (rfl)
@[simp] theorem State.jump_cycles (s : State) (t : Word) : (s.jump t).cycles = s.cycles := (rfl)
@[simp] theorem State.jump_delta (s : State) (t : Word) : (s.jump t).delta = s.delta := (rfl)
@[simp] theorem State.jump_fault (s : State) (t : Word) : (s.jump t).fault = s.fault := (rfl)
@[simp] theorem State.jump_mem (s : State) (t : Word) : (s.jump t).mem = s.mem := (rfl)
@[simp] theorem State.jump_divAcc (s : State) (t : Word) : (s.jump t).divAcc = s.divAcc := (rfl)
@[simp] theorem State.jump_timaAcc (s : State) (t : Word) : (s.jump t).timaAcc = s.timaAcc := (rfl)
@[simp] theorem State.jump_cfg (s : State) (t : Word) : (s.jump t).cfg = s.cfg := (rfl)

/-! ### `charge` -/

@[simp] theorem State.charge_a (s : State) (n : Nat) : (s.charge n).a = s.a := (rfl)
@[simp] theorem State.charge_f (s : State) (n : Nat) : (s.charge n).f = s.f := (rfl)
@[simp] theorem State.charge_b (s : State) (n : Nat) : (s.charge n).b = s.b := (rfl)
@[simp] theorem State.charge_c (s : State) (n : Nat) : (s.charge n).c = s.c := (rfl)
@[simp] theorem State.charge_d (s : State) (n : Nat) : (s.charge n).d = s.d := (rfl)
@[simp] theorem State.charge_e (s : State) (n : Nat) : (s.charge n).e = s.e := (rfl)
@[simp] theorem State.charge_h (s : State) (n : Nat) : (s.charge n).h = s.h := (rfl)
@[simp] theorem State.charge_l (s : State) (n : Nat) : (s.charge n).l = s.l := (rfl)
@[simp] theorem State.charge_sp (s : State) (n : Nat) : (s.charge n).sp = s.sp := (rfl)
@[simp] theorem State.charge_pc (s : State) (n : Nat) : (s.charge n).pc = s.pc := (rfl)
@[simp] theorem State.charge_halted (s : State) (n : Nat) : (s.charge n).halted = s.halted := (rfl)
@[simp] theorem State.charge_stopped (s : State) (n : Nat) : (s.charge n).stopped = s.stopped := (rfl)
@[simp] theorem State.charge_ime (s : State) (n : Nat) : (s.charge n).ime = s.ime := (rfl)
@[simp] theorem State.charge_imePending (s : State) (n : Nat) : (s.charge n).imePending = s.imePending := (rfl)
@[simp] theorem State.charge_cycles (s : State) (n : Nat) : (s.charge n).cycles = s.cycles := (rfl)
@[simp] theorem State.charge_delta (s : State) (n : Nat) : (s.charge n).delta = n := (rfl)
@[simp] theorem State.charge_fault (s : State) (n : Nat) : (s.charge n).fault = s.fault := (rfl)
@[simp] theorem State.charge_mem (s : State) (n : Nat) : (s.charge n).mem = s.mem := (rfl)
@[simp] theorem State.charge_divAcc (s : State) (n : Nat) : (s.charge n).divAcc = s.divAcc := (rfl)
@[simp] theorem State.charge_timaAcc (s : State) (n : Nat) : (s.charge n).timaAcc = s.timaAcc := (rfl)
@[simp] theorem State.charge_cfg (s : State) (n : Nat) : (s.charge n).cfg = s.cfg := (rfl)

/-! ### `poke` -/

@[simp] theorem State.poke_a (s : State) (x : Word) (v : Byte) : (s.poke x v).a = s.a := (rfl)
@[simp] theorem State.poke_f (s : State) (x : Word) (v : Byte) : (s.poke x v).f = s.f := (rfl)
@[simp] theorem State.poke_b (s : State) (x : Word) (v : Byte) : (s.poke x v).b = s.b := (rfl)
@[simp] theorem State.poke_c (s : State) (x : Word) (v : Byte) : (s.poke x v).c = s.c := (rfl)
@[simp] theorem State.poke_d (s : State) (x : Word) (v : Byte) : (s.poke x v).d = s.d := (rfl)
@[simp] theorem State.poke_e (s : State) (x : Word) (v : Byte) : (s.poke x v).e = s.e := (rfl)
@[simp] theorem State.poke_h (s : State) (x : Word) (v : Byte) : (s.poke x v).h = s.h := (rfl)
@[simp] theorem State.poke_l (s : State) (x : Word) (v : Byte) : (s.poke x v).l = s.l := (rfl)
@[simp] theorem State.poke_sp (s : State) (x : Word) (v : Byte) : (s.poke x v).sp = s.sp := (rfl)
@[simp] theorem State.poke_pc (s : State) (x : Word) (v : Byte) : (s.poke x v).pc = s.pc := (rfl)
@[simp] theorem State.poke_halted (s : State) (x : Word) (v : Byte) : (s.poke x v).halted = s.halted := (rfl)
@[simp] theorem State.poke_stopped (s : State) (x : Word) (v : Byte) : (s.poke x v).stopped = s.stopped := (rfl)
@[simp] theorem State.poke_ime (s : State) (x : Word) (v : Byte) : (s.poke x v).ime = s.ime := (rfl)
@[simp] theorem State.poke_imePending (s : State) (x : Word) (v : Byte) : (s.poke x v).imePending = s.imePending := (rfl)
@[simp] theorem State.poke_cycles (s : State) (x : Word) (v : Byte) : (s.poke x v).cycles = s.cycles := (rfl)
@[simp] theorem State.poke_delta (s : State) (x : Word) (v : Byte) : (s.poke x v).delta = s.delta := (rfl)
@[simp] theorem State.poke_fault (s : State) (x : Word) (v : Byte) : (s.poke x v).fault = s.fault := (rfl)
@[simp] theorem State.poke_mem (s : State) (x : Word) (v : Byte) : (s.poke x v).mem = s.mem.put x.toNat v := (rfl)
@[simp] theorem State.poke_divAcc (s : State) (x : Word) (v : Byte) : (s.poke x v).divAcc = s.divAcc := (rfl)
@[simp] theorem State.poke_timaAcc (s : State) (x : Word) (v : Byte) : (s.poke x v).timaAcc = s.timaAcc := (rfl)
@[simp] theorem State.poke_cfg (s : State) (x : Word) (v : Byte) : (s.poke x v).cfg = s.cfg := (rfl)

/-! ### `popped` -/

@[simp] theorem State.popped_a (s : State) : (s.popped).a = s.a := (rfl)
@[simp] theorem State.popped_f (s : State) : (s.popped).f = s.f := (rfl)
@[simp] theorem State.popped_b (s : State) : (s.popped).b = s.b := (rfl)
@[simp] theorem State.popped_c (s : State) : (s.popped).c = s.c := (rfl)
@[simp] theorem State.popped_d (s : State) : (s.popped).d = s.d := (rfl)
@[simp] theorem State.popped_e (s : State) : (s.popped).e = s.e := (rfl)
@[simp] theorem State.popped_h (s : State) : (s.popped).h = s.h := (rfl)
@[simp] theorem State.popped_l (s : State) : (s.popped).l = s.l := (rfl)
@[simp] theorem State.popped_sp (s : State) : (s.popped).sp = s.sp + 2 := (rfl)
@[simp] theorem State.popped_pc (s : State) : (s.popped).pc = s.pc := (rfl)
@[simp] theorem State.popped_halted (s : State) : (s.popped).halted = s.halted := (rfl)
@[simp] theorem State.popped_stopped (s : State) : (s.popped).stopped = s.stopped := (rfl)
@[simp] theorem State.popped_ime (s : State) : (s.popped).ime = s.ime := (rfl)
@[simp] theorem State.popped_imePending (s : State) : (s.popped).imePending = s.imePending := (rfl)
@[simp] theorem State.popped_cycles (s : State) : (s.popped).cycles = s.cycles := (rfl)
@[simp] theorem State.popped_delta (s : State) : (s.popped).delta = s.delta := (rfl)
@[simp] theorem State.popped_fault (s : State) : (s.popped).fault = s.fault := (rfl)
@[simp] theorem State.popped_mem (s : State) : (s.popped).mem = s.mem := (rfl)
@[simp] theorem State.popped_divAcc (s : State) : (s.popped).divAcc = s.divAcc := (rfl)
@[simp] theorem State.popped_timaAcc (s : State) : (s.popped).timaAcc = s.timaAcc := (rfl)
@[simp] theorem State.popped_cfg (s : State) : (s.popped).cfg = s.cfg := (rfl)

/-! ### `setHL` -/

@[simp] theorem State.setHL_a (s : State) (v : Word) : (s.setHL v).a = s.a := (rfl)
@[simp] theorem State.setHL_f (s : State) (v : Word) : (s.setHL v).f = s.f := (rfl)
@[simp] theorem State.setHL_b (s : State) (v : Word) : (s.setHL v).b = s.b := (rfl)
@[simp] theorem State.setHL_c (s : State) (v : Word) : (s.setHL v).c = s.c := (rfl)
@[simp] theorem State.setHL_d (s : State) (v : Word) : (s.setHL v).d = s.d := (rfl)
@[simp] theorem State.setHL_e (s : State) (v : Word) : (s.setHL v).e = s.e := (rfl)
@[simp] theorem State.setHL_h (s : State) (v : Word) : (s.setHL v).h = hiByte v := (rfl)
@[simp] theorem State.setHL_l (s : State) (v : Word) : (s.setHL v).l = loByte v := (rfl)
@[simp] theorem State.setHL_sp (s : State) (v : Word) : (s.setHL v).sp = s.sp := (rfl)
@[simp] theorem State.setHL_pc (s : State) (v : Word) : (s.setHL v).pc = s.pc := (rfl)
@[simp] theorem State.setHL_halted (s : State) (v : Word) : (s.setHL v).halted = s.halted := (rfl)
@[simp] theorem State.setHL_stopped (s : State) (v : Word) : (s.setHL v).stopped = s.stopped := (rfl)
@[simp] theorem State.setHL_ime (s : State) (v : Word) : (s.setHL v).ime = s.ime := (rfl)
@[simp] theorem State.setHL_imePending (s : State) (v : Word) : (s.setHL v).imePending = s.imePending := (rfl)
@[simp] theorem State.setHL_cycles (s : State) (v : Word) : (s.setHL v).cycles = s.cycles := (rfl)
@[simp] theorem State.setHL_delta (s : State) (v : Word) : (s.setHL v).delta = s.delta := (rfl)
@[simp] theorem State.setHL_fault (s : State) (v : Word) : (s.setHL v).fault = s.fault := (rfl)
@[simp] theorem State.setHL_mem (s : State) (v : Word) : (s.setHL v).mem = s.mem := (rfl)
@[simp] theorem State.setHL_divAcc (s : State) (v : Word) : (s.setHL v).divAcc = s.divAcc := (rfl)
@[simp] theorem State.setHL_timaAcc (s : State) (v : Word) : (s.setHL v).timaAcc = s.timaAcc := (rfl)
@[simp] theorem State.setHL_cfg (s : State) (v : Word) : (s.setHL v).cfg = s.cfg := (rfl)

/-! ### `setFlags` -/

@[simp] theorem State.setFlags_a (s : State) (z n h c : Bool) : (s.setFlags z n h c).a = s.a := (rfl)
@[simp] theorem State.setFlags_f (s : State) (z n h c : Bool) : (s.setFlags z n h c).f = flagByte z n h c := (rfl)
@[simp] theorem State.setFlags_b (s : State) (z n h c : Bool) : (s.setFlags z n h c).b = s.b := (rfl)
@[simp] theorem State.setFlags_c (s : State) (z n h c : Bool) : (s.setFlags z n h c).c = s.c := (rfl)
@[simp] theorem State.setFlags_d (s : State) (z n h c : Bool) : (s.setFlags z n h c).d = s.d := (rfl)
@[simp] theorem State.setFlags_e (s : State) (z n h c : Bool) : (s.setFlags z n h c).e = s.e := (rfl)
@[simp] theorem State.setFlags_h (s : State) (z n h c : Bool) : (s.setFlags z n h c).h = s.h := (rfl)
@[simp] theorem State.setFlags_l (s : State) (z n h c : Bool) : (s.setFlags z n h c).l = s.l := (rfl)
@[simp] theorem State.setFlags_sp (s : State) (z n h c : Bool) : (s.setFlags z n h c).sp = s.sp := (rfl)
@[simp] theorem State.setFlags_pc (s : State) (z n h c : Bool) : (s.setFlags z n h c).pc = s.pc := (rfl)
@[simp] theorem State.setFlags_halted (s : State) (z n h c : Bool) : (s.setFlags z n h c).halted = s.halted := (rfl)
@[simp] theorem State.setFlags_stopped (s : State) (z n h c : Bool) : (s.setFlags z n h c).stopped = s.stopped := (rfl)
@[simp] theorem State.setFlags_ime (s : State) (z n h c : Bool) : (s.setFlags z n h c).ime = s.ime := (rfl)
@[simp] theorem State.setFlags_imePending (s : State) (z n h c : Bool) : (s.setFlags z n h c).imePending = s.imePending := (rfl)
@[simp] theorem State.setFlags_cycles (s : State) (z n h c : Bool) : (s.setFlags z n h c).cycles = s.cycles := (rfl)
@[simp] theorem State.setFlags_delta (s : State) (z n h c : Bool) : (s.setFlags z n h c).delta = s.delta := (rfl)
@[simp] theorem State.setFlags_fault (s : State) (z n h c : Bool) : (s.setFlags z n h c).fault = s.fault := (rfl)
@[simp] theorem State.setFlags_mem (s : State) (z n h c : Bool) : (s.setFlags z n h c).mem = s.mem := (rfl)
@[simp] theorem State.setFlags_divAcc (s : State) (z n h c : Bool) : (s.setFlags z n h c).divAcc = s.divAcc := (rfl)
@[simp] theorem State.setFlags_timaAcc (s : State) (z n h c : Bool) : (s.setFlags z n h c).timaAcc = s.timaAcc := (rfl)
@[simp] theorem State.setFlags_cfg (s : State) (z n h c : Bool) : (s.setFlags z n h c).cfg = s.cfg := (rfl)

/-! ### `raiseFault` -/

@[simp] theorem State.raiseFault_a (s : State) (k : FaultKind) (o : Byte) (p : Bool) : (s.raiseFault k o p).a = s.a := (rfl)
@[simp] theorem State.raiseFault_f (s : State) (k : FaultKind) (o : Byte) (p : Bool) : (s.raiseFault k o p).f = s.f := (rfl)
@[simp] theorem State.raiseFault_b (s : State) (k : FaultKind) (o : Byte) (p : Bool) : (s.raiseFault k o p).b = s.b := (rfl)
@[simp] theorem State.raiseFault_c (s : State) (k : FaultKind) (o : Byte) (p : Bool) : (s.raiseFault k o p).c = s.c := (rfl)
@[simp] theorem State.raiseFault_d (s : State) (k : FaultKind) (o : Byte) (p : Bool) : (s.raiseFault k o p).d = s.d := (rfl)
@[simp] theorem State.raiseFault_e (s : State) (k : FaultKind) (o : Byte) (p : Bool) : (s.raiseFault k o p).e = s.e := (rfl)
@[simp] theorem State.raiseFault_h (s : State) (k : FaultKind) (o : Byte) (p : Bool) : (s.raiseFault k o p).h = s.h := (rfl)
@[simp] theorem State.raiseFault_l (s : State) (k : FaultKind) (o : Byte) (p : Bool) : (s.raiseFault k o p).l = s.l := (rfl)
@[simp] theorem State.raiseFault_sp (s : State) (k : FaultKind) (o : Byte) (p : Bool) : (s.raiseFault k o p).sp = s.sp := (rfl)
@[simp] theorem State.raiseFault_pc (s : State) (k : FaultKind) (o : Byte) (p : Bool) : (s.raiseFault k o p).pc = s.pc := (rfl)
@[simp] theorem State.raiseFault_halted (s : State) (k : FaultKind) (o : Byte) (p : Bool) : (s.raiseFault k o p).halted = s.halted := (rfl)
@[simp] theorem State.raiseFault_stopped (s : State) (k : FaultKind) (o : Byte) (p : Bool) : (s.raiseFault k o p).stopped = s.stopped := (rfl)
@[simp] theorem State.raiseFault_ime (s : State) (k : FaultKind) (o : Byte) (p : Bool) : (s.raiseFault k o p).ime = s.ime := (rfl)
@[simp] theorem State.raiseFault_imePending (s : State) (k : FaultKind) (o : Byte) (p : Bool) : (s.raiseFault k o p).imePending = s.imePending := (rfl)
@[simp] theorem State.raiseFault_cycles (s : State) (k : FaultKind) (o : Byte) (p : Bool) : (s.raiseFault k o p).cycles = s.cycles := (rfl)
@[simp] theorem State.raiseFault_delta (s : State) (k : FaultKind) (o : Byte) (p : Bool) : (s.raiseFault k o p).delta = s.delta := (rfl)
@[simp] theorem State.raiseFault_fault (s : State) (k : FaultKind) (o : Byte) (p : Bool) : (s.raiseFault k o p).fault = some { kind := k, opcode := o, prefixed := p, pc := s.pc } := (rfl)
@[simp] theorem State.raiseFault_mem (s : State) (k : FaultKind) (o : Byte) (p : Bool) : (s.raiseFault k o p).mem = s.mem := (rfl)
@[simp] theorem State.raiseFault_divAcc (s : State) (k : FaultKind) (o : Byte) (p : Bool) : (s.raiseFault k o p).divAcc = s.divAcc := (rfl)
@[simp] theorem State.raiseFault_timaAcc (s : State) (k : FaultKind) (o : Byte) (p : Bool) : (s.raiseFault k o p).timaAcc = s.timaAcc := (rfl)
@[simp] theorem State.raiseFault_cfg (s : State) (k : FaultKind) (o : Byte) (p : Bool) : (s.raiseFault k o p).cfg = s.cfg := (rfl)

/-! ### `setReg8` -/

@[simp] theorem State.setReg8_f (s : State) (r : Reg8) (v : Byte) : (s.setReg8 r v).f = s.f := by cases r <;> rfl
@[simp] theorem State.setReg8_sp (s : State) (r : Reg8) (v : Byte) : (s.setReg8 r v).sp = s.sp := by cases r <;> rfl
@[simp] theorem State.setReg8_pc (s : State) (r : Reg8) (v : Byte) : (s.setReg8 r v).pc = s.pc := by cases r <;> rfl
@[simp] theorem State.setReg8_halted (s : State) (r : Reg8) (v : Byte) : (s.setReg8 r v).halted = s.halted := by cases r <;> rfl
@[simp] theorem State.setReg8_stopped (s : State) (r : Reg8) (v : Byte) : (s.setReg8 r v).stopped = s.stopped := by cases r <;> rfl
@[simp] theorem State.setReg8_ime (s : State) (r : Reg8) (v : Byte) : (s.setReg8 r v).ime = s.ime := by cases r <;> rfl
@[simp] theorem State.setReg8_imePending (s : State) (r : Reg8) (v : Byte) : (s.setReg8 r v).imePending = s.imePending := by cases r <;> rfl
@[simp] theorem State.setReg8_cycles (s : State) (r : Reg8) (v : Byte) : (s.setReg8 r v).cycles = s.cycles := by cases r <;> rfl
@[simp] theorem State.setReg8_delta (s : State) (r : Reg8) (v : Byte) : (s.setReg8 r v).delta = s.delta := by cases r <;> rfl
@[simp] theorem State.setReg8_fault (s : State) (r : Reg8) (v : Byte) : (s.setReg8 r v).fault = s.fault := by cases r <;> rfl
@[simp] theorem State.setReg8_mem (s : State) (r : Reg8) (v : Byte) : (s.setReg8 r v).mem = s.mem := by cases r <;> rfl
@[simp] theorem State.setReg8_divAcc (s : State) (r : Reg8) (v : Byte) : (s.setReg8 r v).divAcc = s.divAcc := by cases r <;> rfl
@[simp] theorem State.setReg8_timaAcc (s : State) (r : Reg8) (v : Byte) : (s.setReg8 r v).timaAcc = s.timaAcc := by cases r <;> rfl
@[simp] theorem State.setReg8_cfg (s : State) (r : Reg8) (v : Byte) : (s.setReg8 r v).cfg = s.cfg := by cases r <;> rfl

/-! ### `setPair` -/

@[simp] theorem State.setPair_a (s : State) (p : Pair) (v : Word) : (s.setPair p v).a = s.a := by cases p <;> rfl
@[simp] theorem State.setPair_f (s : State) (p : Pair) (v : Word) : (s.setPair p v).f = s.f := by cases p <;> rfl
@[simp] theorem State.setPair_pc (s : State) (p : Pair) (v : Word) : (s.setPair p v).pc = s.pc := by cases p <;> rfl
@[simp] theorem State.setPair_halted (s : State) (p : Pair) (v : Word) : (s.setPair p v).halted = s.halted := by cases p <;> rfl
@[simp] theorem State.setPair_stopped (s : State) (p : Pair) (v : Word) : (s.setPair p v).stopped = s.stopped := by cases p <;> rfl
@[simp] theorem State.setPair_ime (s : State) (p : Pair) (v : Word) : (s.setPair p v).ime = s.ime := by cases p <;> rfl
@[simp] theorem State.setPair_imePending (s : State) (p : Pair) (v : Word) : (s.setPair p v).imePending = s.imePending := by cases p <;> rfl
@[simp] theorem State.setPair_cycles (s : State) (p : Pair) (v : Word) : (s.setPair p v).cycles = s.cycles := by cases p <;> rfl
@[simp] theorem State.setPair_delta (s : State) (p : Pair) (v : Word) : (s.setPair p v).delta = s.delta := by cases p <;> rfl
@[simp] theorem State.setPair_fault (s : State) (p : Pair) (v : Word) : (s.setPair p v).fault = s.fault := by cases p <;> rfl
@[simp] theorem State.setPair_mem (s : State) (p : Pair) (v : Word) : (s.setPair p v).mem = s.mem := by cases p <;> rfl
@[simp] theorem State.setPair_divAcc (s : State) (p : Pair) (v : Word) : (s.setPair p v).divAcc = s.divAcc := by cases p <;> rfl
@[simp] theorem State.setPair_timaAcc (s : State) (p : Pair) (v : Word) : (s.setPair p v).timaAcc = s.timaAcc := by cases p <;> rfl
@[simp] theorem State.setPair_cfg (s : State) (p : Pair) (v : Word) : (s.setPair p v).cfg = s.cfg := by cases p <;> rfl

/-! ### `setStackPair` -/

@[simp] theorem State.setStackPair_sp (s : State) (p : StackPair) (v : Word) : (s.setStackPair p v).sp = s.sp := by cases p <;> rfl
@[simp] theorem State.setStackPair_pc (s : State) (p : StackPair) (v : Word) : (s.setStackPair p v).pc = s.pc := by cases p <;> rfl
@[simp] theorem State.setStackPair_halted (s : State) (p : StackPair) (v : Word) : (s.setStackPair p v).halted = s.halted := by cases p <;> rfl
@[simp] theorem State.setStackPair_stopped (s : State) (p : StackPair) (v : Word) : (s.setStackPair p v).stopped = s.stopped := by cases p <;> rfl
@[simp] theorem State.setStackPair_ime (s : State) (p : StackPair) (v : Word) : (s.setStackPair p v).ime = s.ime := by cases p <;> rfl
@[simp] theorem State.setStackPair_imePending (s : State) (p : StackPair) (v : Word) : (s.setStackPair p v).imePending = s.imePending := by cases p <;> rfl
@[simp] theorem State.setStackPair_cycles (s : State) (p : StackPair) (v : Word) : (s.setStackPair p v).cycles = s.cycles := by cases p <;> rfl
@[simp] theorem State.setStackPair_delta (s : State) (p : StackPair) (v : Word) : (s.setStackPair p v).delta = s.delta := by cases p <;> rfl
@[simp] theorem State.setStackPair_fault (s : State) (p : StackPair) (v : Word) : (s.setStackPair p v).fault = s.fault := by cases p <;> rfl
@[simp] theorem State.setStackPair_mem (s : State) (p : StackPair) (v : Word) : (s.setStackPair p v).mem = s.mem := by cases p <;> rfl
@[simp] theorem State.setStackPair_divAcc (s : State) (p : StackPair) (v : Word) : (s.setStackPair p v).divAcc = s.divAcc := by cases p <;> rfl
@[simp] theorem State.setStackPair_timaAcc (s : State) (p : StackPair) (v : Word) : (s.setStackPair p v).timaAcc = s.timaAcc := by cases p <;> rfl
@[simp] theorem State.setStackPair_cfg (s : State) (p : StackPair) (v : Word) : (s.setStackPair p v).cfg = s.cfg := by cases p <;> rfl

/-! ### `writeByte` -/

@[simp] theorem State.writeByte_a (s : State) (x : Word) (v : Byte) : (s.writeByte x v).a = s.a := by
  unfold State.writeByte; split <;> [rfl; split <;> rfl]
@[simp] theorem State.writeByte_f (s : State) (x : Word) (v : Byte) : (s.writeByte x v).f = s.f := by
  unfold State.writeByte; split <;> [rfl; split <;> rfl]
@[simp] theorem State.writeByte_b (s : State) (x : Word) (v : Byte) : (s.writeByte x v).b = s.b := by
  unfold State.writeByte; split <;> [rfl; split <;> rfl]
@[simp] theorem State.writeByte_c (s : State) (x : Word) (v : Byte) : (s.writeByte x v).c = s.c := by
  unfold State.writeByte; split <;> [rfl; split <;> rfl]
@[simp] theorem State.writeByte_d (s : State) (x : Word) (v : Byte) : (s.writeByte x v).d = s.d := by
  unfold State.writeByte; split <;> [rfl; split <;> rfl]
@[simp] theorem State.writeByte_e (s : State) (x : Word) (v : Byte) : (s.writeByte x v).e = s.e := by
  unfold State.writeByte; split <;> [rfl; split <;> rfl]
@[simp] theorem State.writeByte_h (s : State) (x : Word) (v : Byte) : (s.writeByte x v).h = s.h := by
  unfold State.writeByte; split <;> [rfl; split <;> rfl]
@[simp] theorem State.writeByte_l (s : State) (x : Word) (v : Byte) : (s.writeByte x v).l = s.l := by
  unfold State.writeByte; split <;> [rfl; split <;> rfl]
@[simp] theorem State.writeByte_sp (s : State) (x : Word) (v : Byte) : (s.writeByte x v).sp = s.sp := by
  unfold State.writeByte; split <;> [rfl; split <;> rfl]
@[simp] theorem State.writeByte_pc (s : State) (x : Word) (v : Byte) : (s.writeByte x v).pc = s.pc := by
  unfold State.writeByte; split <;> [rfl; split <;> rfl]
@[simp] theorem State.writeByte_halted (s : State) (x : Word) (v : Byte) : (s.writeByte x v).halted = s.halted := by
  unfold State.writeByte; split <;> [rfl; split <;> rfl]
@[simp] theorem State.writeByte_stopped (s : State) (x : Word) (v : Byte) : (s.writeByte x v).stopped = s.stopped := by
  unfold State.writeByte; split <;> [rfl; split <;> rfl]
@[simp] theorem State.writeByte_ime (s : State) (x : Word) (v : Byte) : (s.writeByte x v).ime = s.ime := by
  unfold State.writeByte; split <;> [rfl; split <;> rfl]
@[simp] theorem State.writeByte_imePending (s : State) (x : Word) (v : Byte) : (s.writeByte x v).imePending = s.imePending := by
  unfold State.writeByte; split <;> [rfl; split <;> rfl]
@[simp] theorem State.writeByte_cycles (s : State) (x : Word) (v : Byte) : (s.writeByte x v).cycles = s.cycles := by
  unfold State.writeByte; split <;> [rfl; split <;> rfl]
@[simp] theorem State.writeByte_delta (s : State) (x : Word) (v : Byte) : (s.writeByte x v).delta = s.delta := by
  unfold State.writeByte; split <;> [rfl; split <;> rfl]
@[simp] theorem State.writeByte_fault (s : State) (x : Word) (v : Byte) : (s.writeByte x v).fault = s.fault := by
  unfold State.writeByte; split <;> [rfl; split <;> rfl]
@[simp] theorem State.writeByte_timaAcc (s : State) (x : Word) (v : Byte) : (s.writeByte x v).timaAcc = s.timaAcc := by
  unfold State.writeByte; split <;> [rfl; split <;> rfl]
@[simp] theorem State.writeByte_cfg (s : State) (x : Word) (v : Byte) : (s.writeByte x v).cfg = s.cfg := by
  unfold State.writeByte; split <;> [rfl; split <;> rfl]

/-! ### `dst8` -/

@[simp] theorem State.dst8_f (s : State) (o : Operand8) (v : Byte) : (s.dst8 o v).f = s.f := by
  cases o with
  | reg r => exact s.setReg8_f r v
  | atHL => exact s.writeByte_f s.hl v
@[simp] theorem State.dst8_sp (s : State) (o : Operand8) (v : Byte) : (s.dst8 o v).sp = s.sp := by
  cases o with
  | reg r => exact s.setReg8_sp r v
  | atHL => exact s.writeByte_sp s.hl v
@[simp] theorem State.dst8_pc (s : State) (o : Operand8) (v : Byte) : (s.dst8 o v).pc = s.pc := by
  cases o with
  | reg r => exact s.setReg8_pc r v
  | atHL => exact s.writeByte_pc s.hl v
@[simp] theorem State.dst8_halted (s : State) (o : Operand8) (v : Byte) : (s.dst8 o v).halted = s.halted := by
  cases o with
  | reg r => exact s.setReg8_halted r v
  | atHL => exact s.writeByte_halted s.hl v
@[simp] theorem State.dst8_stopped (s : State) (o : Operand8) (v : Byte) : (s.dst8 o v).stopped = s.stopped := by
  cases o with
  | reg r => exact s.setReg8_stopped r v
  | atHL => exact s.writeByte_stopped s.hl v
@[simp] theorem State.dst8_ime (s : State) (o : Operand8) (v : Byte) : (s.dst8 o v).ime = s.ime := by
  cases o with
  | reg r => exact s.setReg8_ime r v
  | atHL => exact s.writeByte_ime s.hl v
@[simp] theorem State.dst8_imePending (s : State) (o : Operand8) (v : Byte) : (s.dst8 o v).imePending = s.imePending := by
  cases o with
  | reg r => exact s.setReg8_imePending r v
  | atHL => exact s.writeByte_imePending s.hl v
@[simp] theorem State.dst8_cycles (s : State) (o : Operand8) (v : Byte) : (s.dst8 o v).cycles = s.cycles := by
  cases o with
  | reg r => exact s.setReg8_cycles r v
  | atHL => exact s.writeByte_cycles s.hl v
@[simp] theorem State.dst8_delta (s : State) (o : Operand8) (v : Byte) : (s.dst8 o v).delta = s.delta := by
  cases o with
  | reg r => exact s.setReg8_delta r v
  | atHL => exact s.writeByte_delta s.hl v
@[simp] theorem State.dst8_fault (s : State) (o : Operand8) (v : Byte) : (s.dst8 o v).fault = s.fault := by
  cases o with
  | reg r => exact s.setReg8_fault r v
  | atHL => exact s.writeByte_fault s.hl v
@[simp] theorem State.dst8_timaAcc (s : State) (o : Operand8) (v : Byte) : (s.dst8 o v).timaAcc = s.timaAcc := by
  cases o with
  | reg r => exact s.setReg8_timaAcc r v
  | atHL => exact s.writeByte_timaAcc s.hl v
@[simp] theorem State.dst8_cfg (s : State) (o : Operand8) (v : Byte) : (s.dst8 o v).cfg = s.cfg := by
  cases o with
  | reg r => exact s.setReg8_cfg r v
  | atHL => exact s.writeByte_cfg s.hl v

/-! ### `push16` -/

@[simp] theorem State.push16_a (s : State) (v : Word) : (s.push16 v).a = s.a := by
  simp [State.push16, two_steps_down]
@[simp] theorem State.push16_f (s : State) (v : Word) : (s.push16 v).f = s.f := by
  simp [State.push16, two_steps_down]
@[simp] theorem State.push16_b (s : State) (v : Word) : (s.push16 v).b = s.b := by
  simp [State.push16, two_steps_down]
@[simp] theorem State.push16_c (s : State) (v : Word) : (s.push16 v).c = s.c := by
  simp [State.push16, two_steps_down]
@[simp] theorem State.push16_d (s : State) (v : Word) : (s.push16 v).d = s.d := by
  simp [State.push16, two_steps_down]
@[simp] theorem State.push16_e (s : State) (v : Word) : (s.push16 v).e = s.e := by
  simp [State.push16, two_steps_down]
@[simp] theorem State.push16_h (s : State) (v : Word) : (s.push16 v).h = s.h := by
  simp [State.push16, two_steps_down]
@[simp] theorem State.push16_l (s : State) (v : Word) : (s.push16 v).l = s.l := by
  simp [State.push16, two_steps_down]
@[simp] theorem State.push16_sp (s : State) (v : Word) : (s.push16 v).sp = s.sp - 2 := by
  simp [State.push16, two_steps_down]
@[simp] theorem State.push16_pc (s : State) (v : Word) : (s.push16 v).pc = s.pc := by
  simp [State.push16, two_steps_down]
@[simp] theorem State.push16_halted (s : State) (v : Word) : (s.push16 v).halted = s.halted := by
  simp [State.push16, two_steps_down]
@[simp] theorem State.push16_stopped (s : State) (v : Word) : (s.push16 v).stopped = s.stopped := by
  simp [State.push16, two_steps_down]
@[simp] theorem State.push16_ime (s : State) (v : Word) : (s.push16 v).ime = s.ime := by
  simp [State.push16, two_steps_down]
@[simp] theorem State.push16_imePending (s : State) (v : Word) : (s.push16 v).imePending = s.imePending := by
  simp [State.push16, two_steps_down]
@[simp] theorem State.push16_cycles (s : State) (v : Word) : (s.push16 v).cycles = s.cycles := by
  simp [State.push16, two_steps_down]
@[simp] theorem State.push16_delta (s : State) (v : Word) : (s.push16 v).delta = s.delta := by
  simp [State.push16, two_steps_down]
@[simp] theorem State.push16_fault (s : State) (v : Word) : (s.push16 v).fault = s.fault := by
  simp [State.push16, two_steps_down]
@[simp] theorem State.push16_timaAcc (s : State) (v : Word) : (s.push16 v).timaAcc = s.timaAcc := by
  simp [State.push16, two_steps_down]
@[simp] theorem State.push16_cfg (s : State) (v : Word) : (s.push16 v).cfg = s.cfg := by
  simp [State.push16, two_steps_down]

/-! ### `returnToCaller` -/

@[simp] theorem State.returnToCaller_a (s : State) : (s.returnToCaller).a = s.a := (rfl)
@[simp] theorem State.returnToCaller_f (s : State) : (s.returnToCaller).f = s.f := (rfl)
@[simp] theorem State.returnToCaller_b (s : State) : (s.returnToCaller).b = s.b := (rfl)
@[simp] theorem State.returnToCaller_c (s : State) : (s.returnToCaller).c = s.c := (rfl)
@[simp] theorem State.returnToCaller_d (s : State) : (s.returnToCaller).d = s.d := (rfl)
@[simp] theorem State.returnToCaller_e (s : State) : (s.returnToCaller).e = s.e := (rfl)
@[simp] theorem State.returnToCaller_h (s : State) : (s.returnToCaller).h = s.h := (rfl)
@[simp] theorem State.returnToCaller_l (s : State) : (s.returnToCaller).l = s.l := (rfl)
@[simp] theorem State.returnToCaller_sp (s : State) : (s.returnToCaller).sp = s.sp + 2 := (rfl)
@[simp] theorem State.returnToCaller_pc (s : State) : (s.returnToCaller).pc = s.top16 := (rfl)
@[simp] theorem State.returnToCaller_halted (s : State) : (s.returnToCaller).halted = s.halted := (rfl)
@[simp] theorem State.returnToCaller_stopped (s : State) : (s.returnToCaller).stopped = s.stopped := (rfl)
@[simp] theorem State.returnToCaller_ime (s : State) : (s.returnToCaller).ime = s.ime := (rfl)
@[simp] theorem State.returnToCaller_imePending (s : State) : (s.returnToCaller).imePending = s.imePending := (rfl)
@[simp] theorem State.returnToCaller_cycles (s : State) : (s.returnToCaller).cycles = s.cycles := (rfl)
@[simp] theorem State.returnToCaller_delta (s : State) : (s.returnToCaller).delta = s.delta := (rfl)
@[simp] theorem State.returnToCaller_fault (s : State) : (s.returnToCaller).fault = s.fault := (rfl)
@[simp] theorem State.returnToCaller_mem (s : State) : (s.returnToCaller).mem = s.mem := (rfl)
@[simp] theorem State.returnToCaller_divAcc (s : State) : (s.returnToCaller).divAcc = s.divAcc := (rfl)
@[simp] theorem State.returnToCaller_timaAcc (s : State) : (s.returnToCaller).timaAcc = s.timaAcc := (rfl)
@[simp] theorem State.returnToCaller_cfg (s : State) : (s.returnToCaller).cfg = s.cfg := (rfl)

/-! ### `returnFromInterrupt` -/

@[simp] theorem State.returnFromInterrupt_a (s : State) : (s.returnFromInterrupt).a = s.a := (rfl)
@[simp] theorem State.returnFromInterrupt_f (s : State) : (s.returnFromInterrupt).f = s.f := (rfl)
@[simp] theorem State.returnFromInterrupt_b (s : State) : (s.returnFromInterrupt).b = s.b := (rfl)
@[simp] theorem State.returnFromInterrupt_c (s : State) : (s.returnFromInterrupt).c = s.c := (rfl)
@[simp] theorem State.returnFromInterrupt_d (s : State) : (s.returnFromInterrupt).d = s.d := (rfl)
@[simp] theorem State.returnFromInterrupt_e (s : State) : (s.returnFromInterrupt).e = s.e := (rfl)
@[simp] theorem State.returnFromInterrupt_h (s : State) : (s.returnFromInterrupt).h = s.h := (rfl)
@[simp] theorem State.returnFromInterrupt_l (s : State) : (s.returnFromInterrupt).l = s.l := (rfl)
@[simp] theorem State.returnFromInterrupt_sp (s : State) : (s.returnFromInterrupt).sp = s.sp + 2 := (rfl)
@[simp] theorem State.returnFromInterrupt_pc (s : State) : (s.returnFromInterrupt).pc = s.top16 := (rfl)
@[simp] theorem State.returnFromInterrupt_halted (s : State) : (s.returnFromInterrupt).halted = s.halted := (rfl)
@[simp] theorem State.returnFromInterrupt_stopped (s : State) : (s.returnFromInterrupt).stopped = s.stopped := (rfl)
@[simp] theorem State.returnFromInterrupt_ime (s : State) : (s.returnFromInterrupt).ime = true := (rfl)
@[simp] theorem State.returnFromInterrupt_imePending (s : State) : (s.returnFromInterrupt).imePending = s.imePending := (rfl)
@[simp] theorem State.returnFromInterrupt_cycles (s : State) : (s.returnFromInterrupt).cycles = s.cycles := (rfl)
@[simp] theorem State.returnFromInterrupt_delta (s : State) : (s.returnFromInterrupt).delta = s.delta := (rfl)
@[simp] theorem State.returnFromInterrupt_fault (s : State) : (s.returnFromInterrupt).fault = s.fault := (rfl)
@[simp] theorem State.returnFromInterrupt_mem (s : State) : (s.returnFromInterrupt).mem = s.mem := (rfl)
@[simp] theorem State.returnFromInterrupt_divAcc (s : State) : (s.returnFromInterrupt).divAcc = s.divAcc := (rfl)
@[simp] theorem State.returnFromInterrupt_timaAcc (s : State) : (s.returnFromInterrupt).timaAcc = s.timaAcc := (rfl)
@[simp] theorem State.returnFromInterrupt_cfg (s : State) : (s.returnFromInterrupt).cfg = s.cfg := (rfl)

/-! ### `enterInterrupt` -/

@[simp] theorem State.enterInterrupt_a (s : State) (k : Nat) : (s.enterInterrupt k).a = s.a := by
  simp [State.enterInterrupt]
@[simp] theorem State.enterInterrupt_f (s : State) (k : Nat) : (s.enterInterrupt k).f = s.f := by
  simp [State.enterInterrupt]
@[simp] theorem State.enterInterrupt_b (s : State) (k : Nat) : (s.enterInterrupt k).b = s.b := by
  simp [State.enterInterrupt]
@[simp] theorem State.enterInterrupt_c (s : State) (k : Nat) : (s.enterInterrupt k).c = s.c := by
  simp [State.enterInterrupt]
@[simp] theorem State.enterInterrupt_d (s : State) (k : Nat) : (s.enterInterrupt k).d = s.d := by
  simp [State.enterInterrupt]
@[simp] theorem State.enterInterrupt_e (s : State) (k : Nat) : (s.enterInterrupt k).e = s.e := by
  simp [State.enterInterrupt]
@[simp] theorem State.enterInterrupt_h (s : State) (k : Nat) : (s.enterInterrupt k).h = s.h := by
  simp [State.enterInterrupt]
@[simp] theorem State.enterInterrupt_l (s : State) (k : Nat) : (s.enterInterrupt k).l = s.l := by
  simp [State.enterInterrupt]
@[simp] theorem State.enterInterrupt_sp (s : State) (k : Nat) : (s.enterInterrupt k).sp = s.sp - 2 := by
  simp [State.enterInterrupt]
@[simp] theorem State.enterInterrupt_pc (s : State) (k : Nat) : (s.enterInterrupt k).pc = interruptVector k := by
  simp [State.enterInterrupt]
@[simp] theorem State.enterInterrupt_halted (s : State) (k : Nat) : (s.enterInterrupt k).halted = false := by
  simp [State.enterInterrupt]
@[simp] theorem State.enterInterrupt_stopped (s : State) (k : Nat) : (s.enterInterrupt k).stopped = s.stopped := by
  simp [State.enterInterrupt]
@[simp] theorem State.enterInterrupt_ime (s : State) (k : Nat) : (s.enterInterrupt k).ime = false := by
  simp [State.enterInterrupt]
@[simp] theorem State.enterInterrupt_imePending (s : State) (k : Nat) : (s.enterInterrupt k).imePending = false := by
  simp [State.enterInterrupt]
@[simp] theorem State.enterInterrupt_cycles (s : State) (k : Nat) : (s.enterInterrupt k).cycles = s.cycles := by
  simp [State.enterInterrupt]
@[simp] theorem State.enterInterrupt_delta (s : State) (k : Nat) : (s.enterInterrupt k).delta = s.delta := by
  simp [State.enterInterrupt]
@[simp] theorem State.enterInterrupt_fault (s : State) (k : Nat) : (s.enterInterrupt k).fault = s.fault := by
  simp [State.enterInterrupt]
@[simp] theorem State.enterInterrupt_timaAcc (s : State) (k : Nat) : (s.enterInterrupt k).timaAcc = s.timaAcc := by
  simp [State.enterInterrupt]
@[simp] theorem State.enterInterrupt_cfg (s : State) (k : Nat) : (s.enterInterrupt k).cfg = s.cfg := by
  simp [State.enterInterrupt]

/-! ### `timaTick` -/

@[simp] theorem State.timaTick_a (s : State) : (s.timaTick).a = s.a := by
  unfold State.timaTick; split <;> rfl
@[simp] theorem State.timaTick_f (s : State) : (s.timaTick).f = s.f := by
  unfold State.timaTick; split <;> rfl
@[simp] theorem State.timaTick_b (s : State) : (s.timaTick).b = s.b := by
  unfold State.timaTick; split <;> rfl
@[simp] theorem State.timaTick_c (s : State) : (s.timaTick).c = s.c := by
  unfold State.timaTick; split <;> rfl
@[simp] theorem State.timaTick_d (s : State) : (s.timaTick).d = s.d := by
  unfold State.timaTick; split <;> rfl
@[simp] theorem State.timaTick_e (s : State) : (s.timaTick).e = s.e := by
  unfold State.timaTick; split <;> rfl
@[simp] theorem State.timaTick_h (s : State) : (s.timaTick).h = s.h := by
  unfold State.timaTick; split <;> rfl
@[simp] theorem State.timaTick_l (s : State) : (s.timaTick).l = s.l := by
  unfold State.timaTick; split <;> rfl
@[simp] theorem State.timaTick_sp (s : State) : (s.timaTick).sp = s.sp := by
  unfold State.timaTick; split <;> rfl
@[simp] theorem State.timaTick_pc (s : State) : (s.timaTick).pc = s.pc := by
  unfold State.timaTick; split <;> rfl
@[simp] theorem State.timaTick_halted (s : State) : (s.timaTick).halted = s.halted := by
  unfold State.timaTick; split <;> rfl
@[simp] theorem State.timaTick_stopped (s : State) : (s.timaTick).stopped = s.stopped := by
  unfold State.timaTick; split <;> rfl
@[simp] theorem State.timaTick_ime (s : State) : (s.timaTick).ime = s.ime := by
  unfold State.timaTick; split <;> rfl
@[simp] theorem State.timaTick_imePending (s : State) : (s.timaTick).imePending = s.imePending := by
  unfold State.timaTick; split <;> rfl
@[simp] theorem State.timaTick_cycles (s : State) : (s.timaTick).cycles = s.cycles := by
  unfold State.timaTick; split <;> rfl
@[simp] theorem State.timaTick_delta (s : State) : (s.timaTick).delta = s.delta := by
  unfold State.timaTick; split <;> rfl
@[simp] theorem State.timaTick_fault (s : State) : (s.timaTick).fault = s.fault := by
  unfold State.timaTick; split <;> rfl
@[simp] theorem State.timaTick_divAcc (s : State) : (s.timaTick).divAcc = s.divAcc := by
  unfold State.timaTick; split <;> rfl
@[simp] theorem State.timaTick_timaAcc (s : State) : (s.timaTick).timaAcc = s.timaAcc := by
  unfold State.timaTick; split <;> rfl
@[simp] theorem State.timaTick_cfg (s : State) : (s.timaTick).cfg = s.cfg := by
  unfold State.timaTick; split <;> rfl

/-! ### `divTick` -/

@[simp] theorem State.divTick_a (s : State) : (s.divTick).a = s.a := (rfl)
@[simp] theorem State.divTick_f (s : State) : (s.divTick).f = s.f := (rfl)
@[simp] theorem State.divTick_b (s : State) : (s.divTick).b = s.b := (rfl)
@[simp] theorem State.divTick_c (s : State) : (s.divTick).c = s.c := (rfl)
@[simp] theorem State.divTick_d (s : State) : (s.divTick).d = s.d := (rfl)
@[simp] theorem State.divTick_e (s : State) : (s.divTick).e = s.e := (rfl)
@[simp] theorem State.divTick_h (s : State) : (s.divTick).h = s.h := (rfl)
@[simp] theorem State.divTick_l (s : State) : (s.divTick).l = s.l := (rfl)
@[simp] theorem State.divTick_sp (s : State) : (s.divTick).sp = s.sp := (rfl)
@[simp] theorem State.divTick_pc (s : State) : (s.divTick).pc = s.pc := (rfl)
@[simp] theorem State.divTick_halted (s : State) : (s.divTick).halted = s.halted := (rfl)
@[simp] theorem State.divTick_stopped (s : State) : (s.divTick).stopped = s.stopped := (rfl)
@[simp] theorem State.divTick_ime (s : State) : (s.divTick).ime = s.ime := (rfl)
@[simp] theorem State.divTick_imePending (s : State) : (s.divTick).imePending = s.imePending := (rfl)
@[simp] theorem State.divTick_cycles (s : State) : (s.divTick).cycles = s.cycles := (rfl)
@[simp] theorem State.divTick_delta (s : State) : (s.divTick).delta = s.delta := (rfl)
@[simp] theorem State.divTick_fault (s : State) : (s.divTick).fault = s.fault := (rfl)
@[simp] theorem State.divTick_divAcc (s : State) : (s.divTick).divAcc = s.divAcc := (rfl)
@[simp] theorem State.divTick_timaAcc (s : State) : (s.divTick).timaAcc = s.timaAcc := (rfl)
@[simp] theorem State.divTick_cfg (s : State) : (s.divTick).cfg = s.cfg := (rfl)

/-! ### `timaTicks` -/

@[simp] theorem State.timaTicks_a (n : Nat) (s : State) : (State.timaTicks n s).a = s.a := by
  induction n generalizing s with
  | zero => rfl
  | succ n ih => simp [State.timaTicks, ih]
@[simp] theorem State.timaTicks_f (n : Nat) (s : State) : (State.timaTicks n s).f = s.f := by
  induction n generalizing s with
  | zero => rfl
  | succ n ih => simp [State.timaTicks, ih]
@[simp] theorem State.timaTicks_b (n : Nat) (s : State) : (State.timaTicks n s).b = s.b := by
  induction n generalizing s with
  | zero => rfl
  | succ n ih => simp [State.timaTicks, ih]
@[simp] theorem State.timaTicks_c (n : Nat) (s : State) : (State.timaTicks n s).c = s.c := by
  induction n generalizing s with
  | zero => rfl
  | succ n ih => simp [State.timaTicks, ih]
@[simp] theorem State.timaTicks_d (n : Nat) (s : State) : (State.timaTicks n s).d = s.d := by
  induction n generalizing s with
  | zero => rfl
  | succ n ih => simp [State.timaTicks, ih]
@[simp] theorem State.timaTicks_e (n : Nat) (s : State) : (State.timaTicks n s).e = s.e := by
  induction n generalizing s with
  | zero => rfl
  | succ n ih => simp [State.timaTicks, ih]
@[simp] theorem State.timaTicks_h (n : Nat) (s : State) : (State.timaTicks n s).h = s.h := by
  induction n generalizing s with
  | zero => rfl
  | succ n ih => simp [State.timaTicks, ih]
@[simp] theorem State.timaTicks_l (n : Nat) (s : State) : (State.timaTicks n s).l = s.l := by
  induction n generalizing s with
  | zero => rfl
  | succ n ih => simp [State.timaTicks, ih]
@[simp] theorem State.timaTicks_sp (n : Nat) (s : State) : (State.timaTicks n s).sp = s.sp := by
  induction n generalizing s with
  | zero => rfl
  | succ n ih => simp [State.timaTicks, ih]
@[simp] theorem State.timaTicks_pc (n : Nat) (s : State) : (State.timaTicks n s).pc = s.pc := by
  induction n generalizing s with
  | zero => rfl
  | succ n ih => simp [State.timaTicks, ih]
@[simp] theorem State.timaTicks_halted (n : Nat) (s : State) : (State.timaTicks n s).halted = s.halted := by
  induction n generalizing s with
  | zero => rfl
  | succ n ih => simp [State.timaTicks, ih]
@[simp] theorem State.timaTicks_stopped (n : Nat) (s : State) : (State.timaTicks n s).stopped = s.stopped := by
  induction n generalizing s with
  | zero => rfl
  | succ n ih => simp [State.timaTicks, ih]
@[simp] theorem State.timaTicks_ime (n : Nat) (s : State) : (State.timaTicks n s).ime = s.ime := by
  induction n generalizing s with
  | zero => rfl
  | succ n ih => simp [State.timaTicks, ih]
@[simp] theorem State.timaTicks_imePending (n : Nat) (s : State) : (State.timaTicks n s).imePending = s.imePending := by
  induction n generalizing s with
  | zero => rfl
  | succ n ih => simp [State.timaTicks, ih]
@[simp] theorem State.timaTicks_cycles (n : Nat) (s : State) : (State.timaTicks n s).cycles = s.cycles := by
  induction n generalizing s with
  | zero => rfl
  | succ n ih => simp [State.timaTicks, ih]
@[simp] theorem State.timaTicks_delta (n : Nat) (s : State) : (State.timaTicks n s).delta = s.delta := by
  induction n generalizing s with
  | zero => rfl
  | succ n ih => simp [State.timaTicks, ih]
@[simp] theorem State.timaTicks_fault (n : Nat) (s : State) : (State.timaTicks n s).fault = s.fault := by
  induction n generalizing s with
  | zero => rfl
  | succ n ih => simp [State.timaTicks, ih]
@[simp] theorem State.timaTicks_divAcc (n : Nat) (s : State) : (State.timaTicks n s).divAcc = s.divAcc := by
  induction n generalizing s with
  | zero => rfl
  | succ n ih => simp [State.timaTicks, ih]
@[simp] theorem State.timaTicks_timaAcc (n : Nat) (s : State) : (State.timaTicks n s).timaAcc = s.timaAcc := by
  induction n generalizing s with
  | zero => rfl
  | succ n ih => simp [State.timaTicks, ih]
@[simp] theorem State.timaTicks_cfg (n : Nat) (s : State) : (State.timaTicks n s).cfg = s.cfg := by
  induction n generalizing s with
  | zero => rfl
  | succ n ih => simp [State.timaTicks, ih]

/-! ### `divTicks` -/

@[simp] theorem State.divTicks_a (n : Nat) (s : State) : (State.divTicks n s).a = s.a := by
  induction n generalizing s with
  | zero => rfl
  | succ n ih => simp [State.divTicks, ih]
@[simp] theorem State.divTicks_f (n : Nat) (s : State) : (State.divTicks n s).f = s.f := by
  induction n generalizing s with
  | zero => rfl
  | succ n ih => simp [State.divTicks, ih]
@[simp] theorem State.divTicks_b (n : Nat) (s : State) : (State.divTicks n s).b = s.b := by
  induction n generalizing s with
  | zero => rfl
  | succ n ih => simp [State.divTicks, ih]
@[simp] theorem State.divTicks_c (n : Nat) (s : State) : (State.divTicks n s).c = s.c := by
  induction n generalizing s with
  | zero => rfl
  | succ n ih => simp [State.divTicks, ih]
@[simp] theorem State.divTicks_d (n : Nat) (s : State) : (State.divTicks n s).d = s.d := by
  induction n generalizing s with
  | zero => rfl
  | succ n ih => simp [State.divTicks, ih]
@[simp] theorem State.divTicks_e (n : Nat) (s : State) : (State.divTicks n s).e = s.e := by
  induction n generalizing s with
  | zero => rfl
  | succ n ih => simp [State.divTicks, ih]
@[simp] theorem State.divTicks_h (n : Nat) (s : State) : (State.divTicks n s).h = s.h := by
  induction n generalizing s with
  | zero => rfl
  | succ n ih => simp [State.divTicks, ih]
@[simp] theorem State.divTicks_l (n : Nat) (s : State) : (State.divTicks n s).l = s.l := by
  induction n generalizing s with
  | zero => rfl
  | succ n ih => simp [State.divTicks, ih]
@[simp] theorem State.divTicks_sp (n : Nat) (s : State) : (State.divTicks n s).sp = s.sp := by
  induction n generalizing s with
  | zero => rfl
  | succ n ih => simp [State.divTicks, ih]
@[simp] theorem State.divTicks_pc (n : Nat) (s : State) : (State.divTicks n s).pc = s.pc := by
  induction n generalizing s with
  | zero => rfl
  | succ n ih => simp [State.divTicks, ih]
@[simp] theorem State.divTicks_halted (n : Nat) (s : State) : (State.divTicks n s).halted = s.halted := by
  induction n generalizing s with
  | zero => rfl
  | succ n ih => simp [State.divTicks, ih]
@[simp] theorem State.divTicks_stopped (n : Nat) (s : State) : (State.divTicks n s).stopped = s.stopped := by
  induction n generalizing s with
  | zero => rfl
  | succ n ih => simp [State.divTicks, ih]
@[simp] theorem State.divTicks_ime (n : Nat) (s : State) : (State.divTicks n s).ime = s.ime := by
  induction n generalizing s with
  | zero => rfl
  | succ n ih => simp [State.divTicks, ih]
@[simp] theorem State.divTicks_imePending (n : Nat) (s : State) : (State.divTicks n s).imePending = s.imePending := by
  induction n generalizing s with
  | zero => rfl
  | succ n ih => simp [State.divTicks, ih]
@[simp] theorem State.divTicks_cycles (n : Nat) (s : State) : (State.divTicks n s).cycles = s.cycles := by
  induction n generalizing s with
  | zero => rfl
  | succ n ih => simp [State.divTicks, ih]
@[simp] theorem State.divTicks_delta (n : Nat) (s : State) : (State.divTicks n s).delta = s.delta := by
  induction n generalizing s with
  | zero => rfl
  | succ n ih => simp [State.divTicks, ih]
@[simp] theorem State.divTicks_fault (n : Nat) (s : State) : (State.divTicks n s).fault = s.fault := by
  induction n generalizing s with
  | zero => rfl
  | succ n ih => simp [State.divTicks, ih]
@[simp] theorem State.divTicks_divAcc (n : Nat) (s : State) : (State.divTicks n s).divAcc = s.divAcc := by
  induction n generalizing s with
  | zero => rfl
  | succ n ih => simp [State.divTicks, ih]
@[simp] theorem State.divTicks_timaAcc (n : Nat) (s : State) : (State.divTicks n s).timaAcc = s.timaAcc := by
  induction n generalizing s with
  | zero => rfl
  | succ n ih => simp [State.divTicks, ih]
@[simp] theorem State.divTicks_cfg (n : Nat) (s : State) : (State.divTicks n s).cfg = s.cfg := by
  induction n generalizing s with
  | zero => rfl
  | succ n ih => simp [State.divTicks, ih]

/-! ### `advanceDiv` -/

@[simp] theorem State.advanceDiv_a (s : State) (clk : Nat) : (s.advanceDiv clk).a = s.a := by
  simp [State.advanceDiv]
@[simp] theorem State.advanceDiv_f (s : State) (clk : Nat) : (s.advanceDiv clk).f = s.f := by
  simp [State.advanceDiv]
@[simp] theorem State.advanceDiv_b (s : State) (clk : Nat) : (s.advanceDiv clk).b = s.b := by
  simp [State.advanceDiv]
@[simp] theorem State.advanceDiv_c (s : State) (clk : Nat) : (s.advanceDiv clk).c = s.c := by
  simp [State.advanceDiv]
@[simp] theorem State.advanceDiv_d (s : State) (clk : Nat) : (s.advanceDiv clk).d = s.d := by
  simp [State.advanceDiv]
@[simp] theorem State.advanceDiv_e (s : State) (clk : Nat) : (s.advanceDiv clk).e = s.e := by
  simp [State.advanceDiv]
@[simp] theorem State.advanceDiv_h (s : State) (clk : Nat) : (s.advanceDiv clk).h = s.h := by
  simp [State.advanceDiv]
@[simp] theorem State.advanceDiv_l (s : State) (clk : Nat) : (s.advanceDiv clk).l = s.l := by
  simp [State.advanceDiv]
@[simp] theorem State.advanceDiv_sp (s : State) (clk : Nat) : (s.advanceDiv clk).sp = s.sp := by
  simp [State.advanceDiv]
@[simp] theorem State.advanceDiv_pc (s : State) (clk : Nat) : (s.advanceDiv clk).pc = s.pc := by
  simp [State.advanceDiv]
@[simp] theorem State.advanceDiv_halted (s : State) (clk : Nat) : (s.advanceDiv clk).halted = s.halted := by
  simp [State.advanceDiv]
@[simp] theorem State.advanceDiv_stopped (s : State) (clk : Nat) : (s.advanceDiv clk).stopped = s.stopped := by
  simp [State.advanceDiv]
@[simp] theorem State.advanceDiv_ime (s : State) (clk : Nat) : (s.advanceDiv clk).ime = s.ime := by
  simp [State.advanceDiv]
@[simp] theorem State.advanceDiv_imePending (s : State) (clk : Nat) : (s.advanceDiv clk).imePending = s.imePending := by
  simp [State.advanceDiv]
@[simp] theorem State.advanceDiv_cycles (s : State) (clk : Nat) : (s.advanceDiv clk).cycles = s.cycles := by
  simp [State.advanceDiv]
@[simp] theorem State.advanceDiv_delta (s : State) (clk : Nat) : (s.advanceDiv clk).delta = s.delta := by
  simp [State.advanceDiv]
@[simp] theorem State.advanceDiv_fault (s : State) (clk : Nat) : (s.advanceDiv clk).fault = s.fault := by
  simp [State.advanceDiv]
@[simp] theorem State.advanceDiv_divAcc (s : State) (clk : Nat) : (s.advanceDiv clk).divAcc = (s.divAcc + clk) % 256 := by
  simp [State.advanceDiv]
@[simp] theorem State.advanceDiv_timaAcc (s : State) (clk : Nat) : (s.advanceDiv clk).timaAcc = s.timaAcc := by
  simp [State.advanceDiv]
@[simp] theorem State.advanceDiv_cfg (s : State) (clk : Nat) : (s.advanceDiv clk).cfg = s.cfg := by
  simp [State.advanceDiv]

/-! ### `advanceTima` -/

@[simp] theorem State.advanceTima_a (s : State) (clk : Nat) : (s.advanceTima clk).a = s.a := by
  unfold State.advanceTima; simp only []; split <;> simp
@[simp] theorem State.advanceTima_f (s : State) (clk : Nat) : (s.advanceTima clk).f = s.f := by
  unfold State.advanceTima; simp only []; split <;> simp
@[simp] theorem State.advanceTima_b (s : State) (clk : Nat) : (s.advanceTima clk).b = s.b := by
  unfold State.advanceTima; simp only []; split <;> simp
@[simp] theorem State.advanceTima_c (s : State) (clk : Nat) : (s.advanceTima clk).c = s.c := by
  unfold State.advanceTima; simp only []; split <;> simp
@[simp] theorem State.advanceTima_d (s : State) (clk : Nat) : (s.advanceTima clk).d = s.d := by
  unfold State.advanceTima; simp only []; split <;> simp
@[simp] theorem State.advanceTima_e (s : State) (clk : Nat) : (s.advanceTima clk).e = s.e := by
  unfold State.advanceTima; simp only []; split <;> simp
@[simp] theorem State.advanceTima_h (s : State) (clk : Nat) : (s.advanceTima clk).h = s.h := by
  unfold State.advanceTima; simp only []; split <;> simp
@[simp] theorem State.advanceTima_l (s : State) (clk : Nat) : (s.advanceTima clk).l = s.l := by
  unfold State.advanceTima; simp only []; split <;> simp
@[simp] theorem State.advanceTima_sp (s : State) (clk : Nat) : (s.advanceTima clk).sp = s.sp := by
  unfold State.advanceTima; simp only []; split <;> simp
@[simp] theorem State.advanceTima_pc (s : State) (clk : Nat) : (s.advanceTima clk).pc = s.pc := by
  unfold State.advanceTima; simp only []; split <;> simp
@[simp] theorem State.advanceTima_halted (s : State) (clk : Nat) : (s.advanceTima clk).halted = s.halted := by
  unfold State.advanceTima; simp only []; split <;> simp
@[simp] theorem State.advanceTima_stopped (s : State) (clk : Nat) : (s.advanceTima clk).stopped = s.stopped := by
  unfold State.advanceTima; simp only []; split <;> simp
@[simp] theorem State.advanceTima_ime (s : State) (clk : Nat) : (s.advanceTima clk).ime = s.ime := by
  unfold State.advanceTima; simp only []; split <;> simp
@[simp] theorem State.advanceTima_imePending (s : State) (clk : Nat) : (s.advanceTima clk).imePending = s.imePending := by
  unfold State.advanceTima; simp only []; split <;> simp
@[simp] theorem State.advanceTima_cycles (s : State) (clk : Nat) : (s.advanceTima clk).cycles = s.cycles := by
  unfold State.advanceTima; simp only []; split <;> simp
@[simp] theorem State.advanceTima_delta (s : State) (clk : Nat) : (s.advanceTima clk).delta = s.delta := by
  unfold State.advanceTima; simp only []; split <;> simp
@[simp] theorem State.advanceTima_fault (s : State) (clk : Nat) : (s.advanceTima clk).fault = s.fault := by
  unfold State.advanceTima; simp only []; split <;> simp
@[simp] theorem State.advanceTima_divAcc (s : State) (clk : Nat) : (s.advanceTima clk).divAcc = s.divAcc := by
  unfold State.advanceTima; simp only []; split <;> simp
@[simp] theorem State.advanceTima_cfg (s : State) (clk : Nat) : (s.advanceTima clk).cfg = s.cfg := by
  unfold State.advanceTima; simp only []; split <;> simp

/-! ### `advanceTimer` -/

@[simp] theorem State.advanceTimer_a (s : State) (clk : Nat) : (s.advanceTimer clk).a = s.a := by
  simp [State.advanceTimer]
@[simp] theorem State.advanceTimer_f (s : State) (clk : Nat) : (s.advanceTimer clk).f = s.f := by
  simp [State.advanceTimer]
@[simp] theorem State.advanceTimer_b (s : State) (clk : Nat) : (s.advanceTimer clk).b = s.b := by
  simp [State.advanceTimer]
@[simp] theorem State.advanceTimer_c (s : State) (clk : Nat) : (s.advanceTimer clk).c = s.c := by
  simp [State.advanceTimer]
@[simp] theorem State.advanceTimer_d (s : State) (clk : Nat) : (s.advanceTimer clk).d = s.d := by
  simp [State.advanceTimer]
@[simp] theorem State.advanceTimer_e (s : State) (clk : Nat) : (s.advanceTimer clk).e = s.e := by
  simp [State.advanceTimer]
@[simp] theorem State.advanceTimer_h (s : State) (clk : Nat) : (s.advanceTimer clk).h = s.h := by
  simp [State.advanceTimer]
@[simp] theorem State.advanceTimer_l (s : State) (clk : Nat) : (s.advanceTimer clk).l = s.l := by
  simp [State.advanceTimer]
@[simp] theorem State.advanceTimer_sp (s : State) (clk : Nat) : (s.advanceTimer clk).sp = s.sp := by
  simp [State.advanceTimer]
@[simp] theorem State.advanceTimer_pc (s : State) (clk : Nat) : (s.advanceTimer clk).pc = s.pc := by
  simp [State.advanceTimer]
@[simp] theorem State.advanceTimer_halted (s : State) (clk : Nat) : (s.advanceTimer clk).halted = s.halted := by
  simp [State.advanceTimer]
@[simp] theorem State.advanceTimer_stopped (s : State) (clk : Nat) : (s.advanceTimer clk).stopped = s.stopped := by
  simp [State.advanceTimer]
@[simp] theorem State.advanceTimer_ime (s : State) (clk : Nat) : (s.advanceTimer clk).ime = s.ime := by
  simp [State.advanceTimer]
@[simp] theorem State.advanceTimer_imePending (s : State) (clk : Nat) : (s.advanceTimer clk).imePending = s.imePending := by
  simp [State.advanceTimer]
@[simp] theorem State.advanceTimer_cycles (s : State) (clk : Nat) : (s.advanceTimer clk).cycles = s.cycles := by
  simp [State.advanceTimer]
@[simp] theorem State.advanceTimer_delta (s : State) (clk : Nat) : (s.advanceTimer clk).delta = s.delta := by
  simp [State.advanceTimer]
@[simp] theorem State.advanceTimer_fault (s : State) (clk : Nat) : (s.advanceTimer clk).fault = s.fault := by
  simp [State.advanceTimer]
@[simp] theorem State.advanceTimer_divAcc (s : State) (clk : Nat) : (s.advanceTimer clk).divAcc = (s.divAcc + clk) % 256 := by
  simp [State.advanceTimer]
@[simp] theorem State.advanceTimer_cfg (s : State) (clk : Nat) : (s.advanceTimer clk).cfg = s.cfg := by
  simp [State.advanceTimer]

/-! ### `eiDelay` -/

@[simp] theorem State.eiDelay_a (s : State) (i : Instr) (p : Bool) : (s.eiDelay i p).a = s.a := by
  unfold State.eiDelay; simp only []; split <;> split <;> rfl
@[simp] theorem State.eiDelay_f (s : State) (i : Instr) (p : Bool) : (s.eiDelay i p).f = s.f := by
  unfold State.eiDelay; simp only []; split <;> split <;> rfl
@[simp] theorem State.eiDelay_b (s : State) (i : Instr) (p : Bool) : (s.eiDelay i p).b = s.b := by
  unfold State.eiDelay; simp only []; split <;> split <;> rfl
@[simp] theorem State.eiDelay_c (s : State) (i : Instr) (p : Bool) : (s.eiDelay i p).c = s.c := by
  unfold State.eiDelay; simp only []; split <;> split <;> rfl
@[simp] theorem State.eiDelay_d (s : State) (i : Instr) (p : Bool) : (s.eiDelay i p).d = s.d := by
  unfold State.eiDelay; simp only []; split <;> split <;> rfl
@[simp] theorem State.eiDelay_e (s : State) (i : Instr) (p : Bool) : (s.eiDelay i p).e = s.e := by
  unfold State.eiDelay; simp only []; split <;> split <;> rfl
@[simp] theorem State.eiDelay_h (s : State) (i : Instr) (p : Bool) : (s.eiDelay i p).h = s.h := by
  unfold State.eiDelay; simp only []; split <;> split <;> rfl
@[simp] theorem State.eiDelay_l (s : State) (i : Instr) (p : Bool) : (s.eiDelay i p).l = s.l := by
  unfold State.eiDelay; simp only []; split <;> split <;> rfl
@[simp] theorem State.eiDelay_sp (s : State) (i : Instr) (p : Bool) : (s.eiDelay i p).sp = s.sp := by
  unfold State.eiDelay; simp only []; split <;> split <;> rfl
@[simp] theorem State.eiDelay_pc (s : State) (i : Instr) (p : Bool) : (s.eiDelay i p).pc = s.pc := by
  unfold State.eiDelay; simp only []; split <;> split <;> rfl
@[simp] theorem State.eiDelay_halted (s : State) (i : Instr) (p : Bool) : (s.eiDelay i p).halted = s.halted := by
  unfold State.eiDelay; simp only []; split <;> split <;> rfl
@[simp] theorem State.eiDelay_stopped (s : State) (i : Instr) (p : Bool) : (s.eiDelay i p).stopped = s.stopped := by
  unfold State.eiDelay; simp only []; split <;> split <;> rfl
@[simp] theorem State.eiDelay_cycles (s : State) (i : Instr) (p : Bool) : (s.eiDelay i p).cycles = s.cycles := by
  unfold State.eiDelay; simp only []; split <;> split <;> rfl
@[simp] theorem State.eiDelay_delta (s : State) (i : Instr) (p : Bool) : (s.eiDelay i p).delta = s.delta := by
  unfold State.eiDelay; simp only []; split <;> split <;> rfl
@[simp] theorem State.eiDelay_fault (s : State) (i : Instr) (p : Bool) : (s.eiDelay i p).fault = s.fault := by
  unfold State.eiDelay; simp only []; split <;> split <;> rfl
@[simp] theorem State.eiDelay_mem (s : State) (i : Instr) (p : Bool) : (s.eiDelay i p).mem = s.mem := by
  unfold State.eiDelay; simp only []; split <;> split <;> rfl
@[simp] theorem State.eiDelay_divAcc (s : State) (i : Instr) (p : Bool) : (s.eiDelay i p).divAcc = s.divAcc := by
  unfold State.eiDelay; simp only []; split <;> split <;> rfl
@[simp] theorem State.eiDelay_timaAcc (s : State) (i : Instr) (p : Bool) : (s.eiDelay i p).timaAcc = s.timaAcc := by
  unfold State.eiDelay; simp only []; split <;> split <;> rfl
@[simp] theorem State.eiDelay_cfg (s : State) (i : Instr) (p : Bool) : (s.eiDelay i p).cfg = s.cfg := by
  unfold State.eiDelay; simp only []; split <;> split <;> rfl

end Sys2Proof.Machine
end

