-- ==== Sys2Proof/Laws/Bus.lean ====
section
/-! SUPPORT. What a read returns after each update, and the one spec lemma of each operation that writes memory. -/

namespace Sys2Proof.Machine

@[simp] theorem State.readByte_fetched (s : State) (n : Nat) (x : Word) :
    (s.fetched n).readByte x = s.readByte x := rfl
@[simp] theorem State.readByte_jump (s : State) (t x : Word) : (s.jump t).readByte x = s.readByte x := rfl
@[simp] theorem State.readByte_charge (s : State) (n : Nat) (x : Word) :
    (s.charge n).readByte x = s.readByte x := rfl
@[simp] theorem State.readByte_setFlags (s : State) (z n h c : Bool) (x : Word) :
    (s.setFlags z n h c).readByte x = s.readByte x := rfl
@[simp] theorem State.readByte_setHL (s : State) (v x : Word) : (s.setHL v).readByte x = s.readByte x := rfl
@[simp] theorem State.readByte_popped (s : State) (x : Word) : s.popped.readByte x = s.readByte x := rfl
@[simp] theorem State.readByte_setReg8 (s : State) (r : Reg8) (v : Byte) (x : Word) :
    (s.setReg8 r v).readByte x = s.readByte x := by cases r <;> rfl

/-- A read depends on memory alone. -/
theorem State.readByte_congr {s t : State} (h : t.mem = s.mem) (x : Word) : t.readByte x = s.readByte x := by
  simp [State.readByte, h]

theorem State.readByte_poke_self (s : State) (x : Word) (v : Byte) : (s.poke x v).readByte x = v := by
  simp [State.readByte, Memory.get_put_self]

theorem State.readByte_poke_other (s : State) {x y : Word} (v : Byte) (h : y ≠ x) :
    (s.poke x v).readByte y = s.readByte y := by
  have : y.toNat ≠ x.toNat := fun e => h (BitVec.eq_of_toNat_eq e)
  simp [State.readByte, Memory.get_put_other _ v this]

theorem State.readByte_poke (s : State) (x y : Word) (v : Byte) :
    (s.poke x v).readByte y = if y = x then v else s.readByte y := by
  split
  · next h => rw [h, State.readByte_poke_self]
  · next h => exact s.readByte_poke_other v h

/-- Everything `write_byte` does to memory and to `div_acc` (R68). -/
theorem State.writeByte_busWrite (s : State) (x : Word) (v : Byte) : BusWrite s x v (s.writeByte x v) := by
  unfold BusWrite State.writeByte
  by_cases hrom : x.toNat < s.cfg.romEnd
  · have : ¬ s.cfg.romEnd ≤ x.toNat := by omega
    simp [hrom, this]
  · have hrom' : s.cfg.romEnd ≤ x.toNat := by omega
    by_cases hdiv : x = addrDIV
    · subst hdiv
      simp only [hrom, if_false, hrom', and_true]
      exact ⟨fun y => s.readByte_poke addrDIV y 0x00, rfl⟩
    · have hdiv' : ¬ x = 0xFF04 := hdiv
      simp only [hrom, if_false, hdiv, hrom', and_true, hdiv', State.poke_divAcc]
      exact fun y => s.readByte_poke x y v

/-- Everything else `write_byte` leaves as it was (R68). -/
theorem State.writeByte_exceptMemory (s : State) (x : Word) (v : Byte) :
    (s.writeByte x v).exceptMemory s = s := by
  unfold State.writeByte
  split
  · rfl
  · split <;> rfl

/-- The two bus writes of a push (R14). -/
theorem State.push16_busWrites (s : State) (v : Word) :
    BusWrites s (s.sp - 1) (hiByte v) (s.sp - 2) (loByte v) (s.push16 v) := by
  refine ⟨({ s with sp := s.sp - 1 } : State).writeByte (s.sp - 1) (hiByte v), by simp, ?_, ?_⟩
  · exact State.writeByte_busWrite { s with sp := s.sp - 1 } (s.sp - 1) (hiByte v)
  · have h := State.writeByte_busWrite
      { ({ s with sp := s.sp - 1 } : State).writeByte (s.sp - 1) (hiByte v) with sp := s.sp - 2 }
      (s.sp - 2) (loByte v)
    have e : s.push16 v =
        ({ ({ s with sp := s.sp - 1 } : State).writeByte (s.sp - 1) (hiByte v) with
            sp := s.sp - 2 } : State).writeByte (s.sp - 2) (loByte v) := by
      simp [State.push16, two_steps_down]
    rw [e]
    exact h

/-- Everything else a push leaves: SP is two lower (R14). -/
theorem State.push16_exceptMemory (s : State) (v : Word) :
    (s.push16 v).exceptMemory s = { s with sp := s.sp - 2 } := by
  unfold State.exceptMemory
  have h : s.push16 v = { s with sp := s.sp - 2, mem := (s.push16 v).mem, divAcc := (s.push16 v).divAcc } := by
    rw [State.mk.injEq]
    simp
  rw [h]

/-- A write keeps the canonical form of memory. -/
theorem State.writeByte_mem_wf (s : State) (x : Word) (v : Byte) (h : s.mem.wf = true) :
    (s.writeByte x v).mem.wf = true := by
  unfold State.writeByte
  split
  · exact h
  · split
    · exact Memory.put_wf 0x00 addrDIV.isLt h
    · exact Memory.put_wf _ x.isLt h

/-- A write does not take `div_acc` out of its range. -/
theorem State.writeByte_divAcc_lt (s : State) (x : Word) (v : Byte) (h : s.divAcc < 256) :
    (s.writeByte x v).divAcc < 256 := by
  unfold State.writeByte
  split
  · exact h
  · split
    · simp
    · exact h

/-- A direct write keeps the canonical form of memory. -/
theorem State.poke_mem_wf (s : State) (x : Word) (v : Byte) (h : s.mem.wf = true) :
    (s.poke x v).mem.wf = true := Memory.put_wf v x.isLt h

end Sys2Proof.Machine
end

