-- ==== Sys2Proof/Laws/Cycles.lean ====
section
/-! SUPPORT. The costs the statements name: the figure a rule prints is that of the default table, so it is the machine's own. -/

namespace Sys2Proof.Machine

/-- A rule's figure agrees with the default table, so it is what the machine charges. -/
theorem State.ruleCost_eq {s : State} {op : Byte} {n : Nat} (h : CycleTable.standard.cost op true = n) :
    s.ruleCost op n = s.cost op := by
  unfold State.ruleCost State.cost State.costIf
  split
  · next e => rw [e, h]
  · rfl

theorem State.ruleCostIf_eq {s : State} {op : Byte} {taken : Bool} {n : Nat}
    (h : CycleTable.standard.cost op taken = n) : s.ruleCostIf op taken n = s.costIf op taken := by
  unfold State.ruleCostIf State.costIf
  split
  · next e => rw [e, h]
  · rfl

theorem State.ruleCostCB_eq {s : State} {op2 : Byte} {n : Nat} (h : CycleTable.standard.cbCost op2 = n) :
    s.ruleCostCB op2 n = s.costCB op2 := by
  unfold State.ruleCostCB State.costCB
  split
  · next e => rw [e, h]
  · rfl

end Sys2Proof.Machine
end

