-- ==== Sys2Proof/Laws/Decode.lean ====
section
/-! SUPPORT. An opcode byte by its two digits, so that a fact about every opcode is a case analysis on digits. -/

namespace Sys2Proof

/-- The value of a digit. -/
def Nibble.val : Nibble → Nat
  | .x0 => 0 | .x1 => 1 | .x2 => 2 | .x3 => 3 | .x4 => 4 | .x5 => 5 | .x6 => 6 | .x7 => 7
  | .x8 => 8 | .x9 => 9 | .xA => 10 | .xB => 11 | .xC => 12 | .xD => 13 | .xE => 14 | .xF => 15

/-- The byte of two digits. -/
def byteOf (hi lo : Nibble) : Byte := BitVec.ofNat 8 (16 * hi.val + lo.val)

theorem nibbleOfNat_val (n : Nat) (h : n < 16) : (nibbleOfNat n).val = n := by
  interval_cases n <;> rfl

/-- A byte is that of its two digits. -/
theorem byteOf_digits (op : Byte) : byteOf (hiNibble op) (loNibble op) = op := by
  have h := op.isLt
  unfold byteOf hiNibble loNibble
  rw [nibbleOfNat_val _ (by omega), nibbleOfNat_val _ (by omega)]
  apply BitVec.eq_of_toNat_eq
  rw [BitVec.toNat_ofNat]
  omega

/-- To show a fact of every byte, show it of every pair of digits. -/
theorem byte_cases {P : Byte → Prop} (h : ∀ hi lo : Nibble, P (byteOf hi lo)) (op : Byte) : P op :=
  byteOf_digits op ▸ h _ _

/-! ### The decoder by the length of the instruction -/

theorem lengthOf_cases (sl : StopLen) (op : Byte) :
    lengthOf sl op = 1 ∨ lengthOf sl op = 2 ∨ lengthOf sl op = 3 := by
  unfold lengthOf
  split
  · cases sl <;> simp [StopLen.bytes]
  split
  · exact .inr (.inr rfl)
  · split
    · exact .inr (.inl rfl)
    · exact .inl rfl

theorem decode_one {sl : StopLen} {op : Byte} (h : lengthOf sl op = 1) (rest : List Byte) :
    decode sl (op :: rest) = .ok (decodeInstr sl op (rest.getD 0 0) (rest.getD 1 0), rest) := by
  simp [decode, h]

theorem decode_two {sl : StopLen} {op : Byte} (h : lengthOf sl op = 2) (b1 : Byte) (rest : List Byte) :
    decode sl (op :: b1 :: rest) = .ok (decodeInstr sl op b1 (rest.getD 0 0), rest) := by
  simp [decode, h]

theorem decode_three {sl : StopLen} {op : Byte} (h : lengthOf sl op = 3) (b1 b2 : Byte) (rest : List Byte) :
    decode sl (op :: b1 :: b2 :: rest) = .ok (decodeInstr sl op b1 b2, rest) := by
  simp [decode, h]

/-- Where the bytes at PC decode, the instruction is the one the engine fetches. -/
theorem decode_ok {sl : StopLen} {op b1 b2 : Byte} {i : Instr} {rest : List Byte}
    (h : decode sl [op, b1, b2] = .ok (i, rest)) :
    i = decodeInstr sl op b1 b2 := by
  have := lengthOf_cases sl op
  simp only [decode] at h
  rw [if_neg (by simp; omega)] at h
  injection h with h
  injection h with h _
  exact h.symm

end Sys2Proof
end

