-- ==== Sys2Proof/Laws/Exec.lean ====
section
/-! SUPPORT. `exec` through the shared operations: each instruction runs one of them, and the fields an operation leaves alone are said once. -/

namespace Sys2Proof.Machine

/-- The shared operations the meanings call, with their arguments. -/
inductive SharedOp where
  | ldReg (r r' : Reg8)
  | ldImm (r : Reg8) (n : Byte)
  | ldFromHL (r : Reg8)
  | ldToHL (r : Reg8)
  | ldImmToHL (n : Byte)
  | ldAFromPair (p : Pair)
  | ldAToPair (p : Pair)
  | ldAFromAddr (nn : Word)
  | ldAToAddr (nn : Word)
  | ldAFromHLThen (d : Word)
  | ldAToHLThen (d : Word)
  | ldhTo (n : Byte)
  | ldhFrom (n : Byte)
  | ldToC
  | ldFromC
  | ldPairImm (p : Pair) (nn : Word)
  | ldSPHL
  | ldSPToAddr (nn : Word)
  | push (p : StackPair)
  | pop (p : StackPair)
  | alu (op : AluOp) (o : Operand8)
  | aluImm (op : AluOp) (n : Byte)
  | incOperand (o : Operand8)
  | decOperand (o : Operand8)
  | daa
  | cpl
  | ccf
  | scf
  | addHL (p : Pair)
  | incPair (p : Pair)
  | decPair (p : Pair)
  | addSP (e : Byte)
  | ldHLSPe (e : Byte)
  | rotateA (op : RotOp)
  | rotate (op : RotOp) (o : Operand8)
  | bitTest (b : Nat) (o : Operand8)
  | bitReset (b : Nat) (o : Operand8)
  | bitSet (b : Nat) (o : Operand8)
  | jp (nn : Word)
  | jpIf (cc : Cond) (nn : Word)
  | jpHL
  | jr (e : Byte)
  | jrIf (cc : Cond) (e : Byte)
  | call (nn : Word)
  | callIf (cc : Cond) (nn : Word)
  | ret
  | retIf (cc : Cond)
  | reti
  | rst (t : Word)
  | nop
  | halt
  | stop
  | di
  | ei
  | raiseUnimplemented (opcode : Byte)
  | runExtended (op2 : Byte)

/-- What a shared operation does. -/
def SharedOp.run : SharedOp → State → State
  | .ldReg r r' => Machine.ldReg r r'
  | .ldImm r n => Machine.ldImm r n
  | .ldFromHL r => Machine.ldFromHL r
  | .ldToHL r => Machine.ldToHL r
  | .ldImmToHL n => Machine.ldImmToHL n
  | .ldAFromPair p => Machine.ldAFromPair p
  | .ldAToPair p => Machine.ldAToPair p
  | .ldAFromAddr nn => Machine.ldAFromAddr nn
  | .ldAToAddr nn => Machine.ldAToAddr nn
  | .ldAFromHLThen d => Machine.ldAFromHLThen d
  | .ldAToHLThen d => Machine.ldAToHLThen d
  | .ldhTo n => Machine.ldhTo n
  | .ldhFrom n => Machine.ldhFrom n
  | .ldToC => Machine.ldToC
  | .ldFromC => Machine.ldFromC
  | .ldPairImm p nn => Machine.ldPairImm p nn
  | .ldSPHL => Machine.ldSPHL
  | .ldSPToAddr nn => Machine.ldSPToAddr nn
  | .push p => Machine.push p
  | .pop p => Machine.pop p
  | .alu op o => Machine.alu op o
  | .aluImm op n => Machine.aluImm op n
  | .incOperand o => Machine.incOperand o
  | .decOperand o => Machine.decOperand o
  | .daa => Machine.daa
  | .cpl => Machine.cpl
  | .ccf => Machine.ccf
  | .scf => Machine.scf
  | .addHL p => Machine.addHL p
  | .incPair p => Machine.incPair p
  | .decPair p => Machine.decPair p
  | .addSP e => Machine.addSP e
  | .ldHLSPe e => Machine.ldHLSPe e
  | .rotateA op => Machine.rotateA op
  | .rotate op o => Machine.rotate op o
  | .bitTest b o => Machine.bitTest b o
  | .bitReset b o => Machine.bitReset b o
  | .bitSet b o => Machine.bitSet b o
  | .jp nn => Machine.jp nn
  | .jpIf cc nn => Machine.jpIf cc nn
  | .jpHL => Machine.jpHL
  | .jr e => Machine.jr e
  | .jrIf cc e => Machine.jrIf cc e
  | .call nn => Machine.call nn
  | .callIf cc nn => Machine.callIf cc nn
  | .ret => Machine.ret
  | .retIf cc => Machine.retIf cc
  | .reti => Machine.reti
  | .rst t => Machine.rst t
  | .nop => Machine.nop
  | .halt => Machine.halt
  | .stop => Machine.stop
  | .di => Machine.di
  | .ei => Machine.ei
  | .raiseUnimplemented opcode => Machine.raiseUnimplemented opcode
  | .runExtended op2 => Machine.runExtended op2

/-- The shared operation an instruction runs. -/
def sharedOp : Instr → SharedOp
  | .nop => .nop
  | .ld_BC_nn nn => .ldPairImm .bc nn
  | .ld_atBC_A => .ldAToPair .bc
  | .inc_BC => .incPair .bc
  | .inc_B => .incOperand (.reg .b)
  | .dec_B => .decOperand (.reg .b)
  | .ld_B_n n => .ldImm .b n
  | .rlca => .rotateA .rlc
  | .ld_atnn_SP nn => .ldSPToAddr nn
  | .add_HL_BC => .addHL .bc
  | .ld_A_atBC => .ldAFromPair .bc
  | .dec_BC => .decPair .bc
  | .inc_C => .incOperand (.reg .c)
  | .dec_C => .decOperand (.reg .c)
  | .ld_C_n n => .ldImm .c n
  | .rrca => .rotateA .rrc
  | .stop _ => .stop
  | .ld_DE_nn nn => .ldPairImm .de nn
  | .ld_atDE_A => .ldAToPair .de
  | .inc_DE => .incPair .de
  | .inc_D => .incOperand (.reg .d)
  | .dec_D => .decOperand (.reg .d)
  | .ld_D_n n => .ldImm .d n
  | .rla => .rotateA .rl
  | .jr_e e => .jr e
  | .add_HL_DE => .addHL .de
  | .ld_A_atDE => .ldAFromPair .de
  | .dec_DE => .decPair .de
  | .inc_E => .incOperand (.reg .e)
  | .dec_E => .decOperand (.reg .e)
  | .ld_E_n n => .ldImm .e n
  | .rra => .rotateA .rr
  | .jr_NZ_e e => .jrIf .nz e
  | .ld_HL_nn nn => .ldPairImm .hl nn
  | .ld_atHLinc_A => .ldAToHLThen 1
  | .inc_HL => .incPair .hl
  | .inc_H => .incOperand (.reg .h)
  | .dec_H => .decOperand (.reg .h)
  | .ld_H_n n => .ldImm .h n
  | .daa => .daa
  | .jr_Z_e e => .jrIf .z e
  | .add_HL_HL => .addHL .hl
  | .ld_A_atHLinc => .ldAFromHLThen 1
  | .dec_HL => .decPair .hl
  | .inc_L => .incOperand (.reg .l)
  | .dec_L => .decOperand (.reg .l)
  | .ld_L_n n => .ldImm .l n
  | .cpl => .cpl
  | .jr_NC_e e => .jrIf .nc e
  | .ld_SP_nn nn => .ldPairImm .sp nn
  | .ld_atHLdec_A => .ldAToHLThen (-1)
  | .inc_SP => .incPair .sp
  | .inc_atHL => .incOperand .atHL
  | .dec_atHL => .decOperand .atHL
  | .ld_atHL_n n => .ldImmToHL n
  | .scf => .scf
  | .jr_C_e e => .jrIf .c e
  | .add_HL_SP => .addHL .sp
  | .ld_A_atHLdec => .ldAFromHLThen (-1)
  | .dec_SP => .decPair .sp
  | .inc_A => .incOperand (.reg .a)
  | .dec_A => .decOperand (.reg .a)
  | .ld_A_n n => .ldImm .a n
  | .ccf => .ccf
  | .ld_B_B => .ldReg .b .b
  | .ld_B_C => .ldReg .b .c
  | .ld_B_D => .ldReg .b .d
  | .ld_B_E => .ldReg .b .e
  | .ld_B_H => .ldReg .b .h
  | .ld_B_L => .ldReg .b .l
  | .ld_B_atHL => .ldFromHL .b
  | .ld_B_A => .ldReg .b .a
  | .ld_C_B => .ldReg .c .b
  | .ld_C_C => .ldReg .c .c
  | .ld_C_D => .ldReg .c .d
  | .ld_C_E => .ldReg .c .e
  | .ld_C_H => .ldReg .c .h
  | .ld_C_L => .ldReg .c .l
  | .ld_C_atHL => .ldFromHL .c
  | .ld_C_A => .ldReg .c .a
  | .ld_D_B => .ldReg .d .b
  | .ld_D_C => .ldReg .d .c
  | .ld_D_D => .ldReg .d .d
  | .ld_D_E => .ldReg .d .e
  | .ld_D_H => .ldReg .d .h
  | .ld_D_L => .ldReg .d .l
  | .ld_D_atHL => .ldFromHL .d
  | .ld_D_A => .ldReg .d .a
  | .ld_E_B => .ldReg .e .b
  | .ld_E_C => .ldReg .e .c
  | .ld_E_D => .ldReg .e .d
  | .ld_E_E => .ldReg .e .e
  | .ld_E_H => .ldReg .e .h
  | .ld_E_L => .ldReg .e .l
  | .ld_E_atHL => .ldFromHL .e
  | .ld_E_A => .ldReg .e .a
  | .ld_H_B => .ldReg .h .b
  | .ld_H_C => .ldReg .h .c
  | .ld_H_D => .ldReg .h .d
  | .ld_H_E => .ldReg .h .e
  | .ld_H_H => .ldReg .h .h
  | .ld_H_L => .ldReg .h .l
  | .ld_H_atHL => .ldFromHL .h
  | .ld_H_A => .ldReg .h .a
  | .ld_L_B => .ldReg .l .b
  | .ld_L_C => .ldReg .l .c
  | .ld_L_D => .ldReg .l .d
  | .ld_L_E => .ldReg .l .e
  | .ld_L_H => .ldReg .l .h
  | .ld_L_L => .ldReg .l .l
  | .ld_L_atHL => .ldFromHL .l
  | .ld_L_A => .ldReg .l .a
  | .ld_atHL_B => .ldToHL .b
  | .ld_atHL_C => .ldToHL .c
  | .ld_atHL_D => .ldToHL .d
  | .ld_atHL_E => .ldToHL .e
  | .ld_atHL_H => .ldToHL .h
  | .ld_atHL_L => .ldToHL .l
  | .halt => .halt
  | .ld_atHL_A => .ldToHL .a
  | .ld_A_B => .ldReg .a .b
  | .ld_A_C => .ldReg .a .c
  | .ld_A_D => .ldReg .a .d
  | .ld_A_E => .ldReg .a .e
  | .ld_A_H => .ldReg .a .h
  | .ld_A_L => .ldReg .a .l
  | .ld_A_atHL => .ldFromHL .a
  | .ld_A_A => .ldReg .a .a
  | .add_A_B => .alu .add (.reg .b)
  | .add_A_C => .alu .add (.reg .c)
  | .add_A_D => .alu .add (.reg .d)
  | .add_A_E => .alu .add (.reg .e)
  | .add_A_H => .alu .add (.reg .h)
  | .add_A_L => .alu .add (.reg .l)
  | .add_A_atHL => .alu .add .atHL
  | .add_A_A => .alu .add (.reg .a)
  | .adc_A_B => .alu .adc (.reg .b)
  | .adc_A_C => .alu .adc (.reg .c)
  | .adc_A_D => .alu .adc (.reg .d)
  | .adc_A_E => .alu .adc (.reg .e)
  | .adc_A_H => .alu .adc (.reg .h)
  | .adc_A_L => .alu .adc (.reg .l)
  | .adc_A_atHL => .alu .adc .atHL
  | .adc_A_A => .alu .adc (.reg .a)
  | .sub_B => .alu .sub (.reg .b)
  | .sub_C => .alu .sub (.reg .c)
  | .sub_D => .alu .sub (.reg .d)
  | .sub_E => .alu .sub (.reg .e)
  | .sub_H => .alu .sub (.reg .h)
  | .sub_L => .alu .sub (.reg .l)
  | .sub_atHL => .alu .sub .atHL
  | .sub_A => .alu .sub (.reg .a)
  | .sbc_A_B => .alu .sbc (.reg .b)
  | .sbc_A_C => .alu .sbc (.reg .c)
  | .sbc_A_D => .alu .sbc (.reg .d)
  | .sbc_A_E => .alu .sbc (.reg .e)
  | .sbc_A_H => .alu .sbc (.reg .h)
  | .sbc_A_L => .alu .sbc (.reg .l)
  | .sbc_A_atHL => .alu .sbc .atHL
  | .sbc_A_A => .alu .sbc (.reg .a)
  | .and_B => .alu .and (.reg .b)
  | .and_C => .alu .and (.reg .c)
  | .and_D => .alu .and (.reg .d)
  | .and_E => .alu .and (.reg .e)
  | .and_H => .alu .and (.reg .h)
  | .and_L => .alu .and (.reg .l)
  | .and_atHL => .alu .and .atHL
  | .and_A => .alu .and (.reg .a)
  | .xor_B => .alu .xor (.reg .b)
  | .xor_C => .alu .xor (.reg .c)
  | .xor_D => .alu .xor (.reg .d)
  | .xor_E => .alu .xor (.reg .e)
  | .xor_H => .alu .xor (.reg .h)
  | .xor_L => .alu .xor (.reg .l)
  | .xor_atHL => .alu .xor .atHL
  | .xor_A => .alu .xor (.reg .a)
  | .or_B => .alu .or (.reg .b)
  | .or_C => .alu .or (.reg .c)
  | .or_D => .alu .or (.reg .d)
  | .or_E => .alu .or (.reg .e)
  | .or_H => .alu .or (.reg .h)
  | .or_L => .alu .or (.reg .l)
  | .or_atHL => .alu .or .atHL
  | .or_A => .alu .or (.reg .a)
  | .cp_B => .alu .cp (.reg .b)
  | .cp_C => .alu .cp (.reg .c)
  | .cp_D => .alu .cp (.reg .d)
  | .cp_E => .alu .cp (.reg .e)
  | .cp_H => .alu .cp (.reg .h)
  | .cp_L => .alu .cp (.reg .l)
  | .cp_atHL => .alu .cp .atHL
  | .cp_A => .alu .cp (.reg .a)
  | .ret_NZ => .retIf .nz
  | .pop_BC => .pop .bc
  | .jp_NZ_nn nn => .jpIf .nz nn
  | .jp_nn nn => .jp nn
  | .call_NZ_nn nn => .callIf .nz nn
  | .push_BC => .push .bc
  | .add_A_n n => .aluImm .add n
  | .rst_00 => .rst 0x0000
  | .ret_Z => .retIf .z
  | .ret => .ret
  | .jp_Z_nn nn => .jpIf .z nn
  | .prefixCB op2 => .runExtended op2
  | .call_Z_nn nn => .callIf .z nn
  | .call_nn nn => .call nn
  | .adc_A_n n => .aluImm .adc n
  | .rst_08 => .rst 0x0008
  | .ret_NC => .retIf .nc
  | .pop_DE => .pop .de
  | .jp_NC_nn nn => .jpIf .nc nn
  | .undef_D3 => .raiseUnimplemented 0xD3
  | .call_NC_nn nn => .callIf .nc nn
  | .push_DE => .push .de
  | .sub_n n => .aluImm .sub n
  | .rst_10 => .rst 0x0010
  | .ret_C => .retIf .c
  | .reti => .reti
  | .jp_C_nn nn => .jpIf .c nn
  | .undef_DB => .raiseUnimplemented 0xDB
  | .call_C_nn nn => .callIf .c nn
  | .undef_DD => .raiseUnimplemented 0xDD
  | .sbc_A_n n => .aluImm .sbc n
  | .rst_18 => .rst 0x0018
  | .ldh_atn_A n => .ldhTo n
  | .pop_HL => .pop .hl
  | .ld_atC_A => .ldToC
  | .undef_E3 => .raiseUnimplemented 0xE3
  | .undef_E4 => .raiseUnimplemented 0xE4
  | .push_HL => .push .hl
  | .and_n n => .aluImm .and n
  | .rst_20 => .rst 0x0020
  | .add_SP_e e => .addSP e
  | .jp_HL => .jpHL
  | .ld_atnn_A nn => .ldAToAddr nn
  | .undef_EB => .raiseUnimplemented 0xEB
  | .undef_EC => .raiseUnimplemented 0xEC
  | .undef_ED => .raiseUnimplemented 0xED
  | .xor_n n => .aluImm .xor n
  | .rst_28 => .rst 0x0028
  | .ldh_A_atn n => .ldhFrom n
  | .pop_AF => .pop .af
  | .ld_A_atC => .ldFromC
  | .di => .di
  | .undef_F4 => .raiseUnimplemented 0xF4
  | .push_AF => .push .af
  | .or_n n => .aluImm .or n
  | .rst_30 => .rst 0x0030
  | .ld_HL_SPe e => .ldHLSPe e
  | .ld_SP_HL => .ldSPHL
  | .ld_A_atnn nn => .ldAFromAddr nn
  | .ei => .ei
  | .undef_FC => .raiseUnimplemented 0xFC
  | .undef_FD => .raiseUnimplemented 0xFD
  | .cp_n n => .aluImm .cp n
  | .rst_38 => .rst 0x0038
  | .rlc_B => .rotate .rlc (.reg .b)
  | .rlc_C => .rotate .rlc (.reg .c)
  | .rlc_D => .rotate .rlc (.reg .d)
  | .rlc_E => .rotate .rlc (.reg .e)
  | .rlc_H => .rotate .rlc (.reg .h)
  | .rlc_L => .rotate .rlc (.reg .l)
  | .rlc_atHL => .rotate .rlc .atHL
  | .rlc_A => .rotate .rlc (.reg .a)
  | .rrc_B => .rotate .rrc (.reg .b)
  | .rrc_C => .rotate .rrc (.reg .c)
  | .rrc_D => .rotate .rrc (.reg .d)
  | .rrc_E => .rotate .rrc (.reg .e)
  | .rrc_H => .rotate .rrc (.reg .h)
  | .rrc_L => .rotate .rrc (.reg .l)
  | .rrc_atHL => .rotate .rrc .atHL
  | .rrc_A => .rotate .rrc (.reg .a)
  | .rl_B => .rotate .rl (.reg .b)
  | .rl_C => .rotate .rl (.reg .c)
  | .rl_D => .rotate .rl (.reg .d)
  | .rl_E => .rotate .rl (.reg .e)
  | .rl_H => .rotate .rl (.reg .h)
  | .rl_L => .rotate .rl (.reg .l)
  | .rl_atHL => .rotate .rl .atHL
  | .rl_A => .rotate .rl (.reg .a)
  | .rr_B => .rotate .rr (.reg .b)
  | .rr_C => .rotate .rr (.reg .c)
  | .rr_D => .rotate .rr (.reg .d)
  | .rr_E => .rotate .rr (.reg .e)
  | .rr_H => .rotate .rr (.reg .h)
  | .rr_L => .rotate .rr (.reg .l)
  | .rr_atHL => .rotate .rr .atHL
  | .rr_A => .rotate .rr (.reg .a)
  | .sla_B => .rotate .sla (.reg .b)
  | .sla_C => .rotate .sla (.reg .c)
  | .sla_D => .rotate .sla (.reg .d)
  | .sla_E => .rotate .sla (.reg .e)
  | .sla_H => .rotate .sla (.reg .h)
  | .sla_L => .rotate .sla (.reg .l)
  | .sla_atHL => .rotate .sla .atHL
  | .sla_A => .rotate .sla (.reg .a)
  | .sra_B => .rotate .sra (.reg .b)
  | .sra_C => .rotate .sra (.reg .c)
  | .sra_D => .rotate .sra (.reg .d)
  | .sra_E => .rotate .sra (.reg .e)
  | .sra_H => .rotate .sra (.reg .h)
  | .sra_L => .rotate .sra (.reg .l)
  | .sra_atHL => .rotate .sra .atHL
  | .sra_A => .rotate .sra (.reg .a)
  | .swap_B => .rotate .swap (.reg .b)
  | .swap_C => .rotate .swap (.reg .c)
  | .swap_D => .rotate .swap (.reg .d)
  | .swap_E => .rotate .swap (.reg .e)
  | .swap_H => .rotate .swap (.reg .h)
  | .swap_L => .rotate .swap (.reg .l)
  | .swap_atHL => .rotate .swap .atHL
  | .swap_A => .rotate .swap (.reg .a)
  | .srl_B => .rotate .srl (.reg .b)
  | .srl_C => .rotate .srl (.reg .c)
  | .srl_D => .rotate .srl (.reg .d)
  | .srl_E => .rotate .srl (.reg .e)
  | .srl_H => .rotate .srl (.reg .h)
  | .srl_L => .rotate .srl (.reg .l)
  | .srl_atHL => .rotate .srl .atHL
  | .srl_A => .rotate .srl (.reg .a)
  | .bit_0_B => .bitTest 0 (.reg .b)
  | .bit_0_C => .bitTest 0 (.reg .c)
  | .bit_0_D => .bitTest 0 (.reg .d)
  | .bit_0_E => .bitTest 0 (.reg .e)
  | .bit_0_H => .bitTest 0 (.reg .h)
  | .bit_0_L => .bitTest 0 (.reg .l)
  | .bit_0_atHL => .bitTest 0 .atHL
  | .bit_0_A => .bitTest 0 (.reg .a)
  | .bit_1_B => .bitTest 1 (.reg .b)
  | .bit_1_C => .bitTest 1 (.reg .c)
  | .bit_1_D => .bitTest 1 (.reg .d)
  | .bit_1_E => .bitTest 1 (.reg .e)
  | .bit_1_H => .bitTest 1 (.reg .h)
  | .bit_1_L => .bitTest 1 (.reg .l)
  | .bit_1_atHL => .bitTest 1 .atHL
  | .bit_1_A => .bitTest 1 (.reg .a)
  | .bit_2_B => .bitTest 2 (.reg .b)
  | .bit_2_C => .bitTest 2 (.reg .c)
  | .bit_2_D => .bitTest 2 (.reg .d)
  | .bit_2_E => .bitTest 2 (.reg .e)
  | .bit_2_H => .bitTest 2 (.reg .h)
  | .bit_2_L => .bitTest 2 (.reg .l)
  | .bit_2_atHL => .bitTest 2 .atHL
  | .bit_2_A => .bitTest 2 (.reg .a)
  | .bit_3_B => .bitTest 3 (.reg .b)
  | .bit_3_C => .bitTest 3 (.reg .c)
  | .bit_3_D => .bitTest 3 (.reg .d)
  | .bit_3_E => .bitTest 3 (.reg .e)
  | .bit_3_H => .bitTest 3 (.reg .h)
  | .bit_3_L => .bitTest 3 (.reg .l)
  | .bit_3_atHL => .bitTest 3 .atHL
  | .bit_3_A => .bitTest 3 (.reg .a)
  | .bit_4_B => .bitTest 4 (.reg .b)
  | .bit_4_C => .bitTest 4 (.reg .c)
  | .bit_4_D => .bitTest 4 (.reg .d)
  | .bit_4_E => .bitTest 4 (.reg .e)
  | .bit_4_H => .bitTest 4 (.reg .h)
  | .bit_4_L => .bitTest 4 (.reg .l)
  | .bit_4_atHL => .bitTest 4 .atHL
  | .bit_4_A => .bitTest 4 (.reg .a)
  | .bit_5_B => .bitTest 5 (.reg .b)
  | .bit_5_C => .bitTest 5 (.reg .c)
  | .bit_5_D => .bitTest 5 (.reg .d)
  | .bit_5_E => .bitTest 5 (.reg .e)
  | .bit_5_H => .bitTest 5 (.reg .h)
  | .bit_5_L => .bitTest 5 (.reg .l)
  | .bit_5_atHL => .bitTest 5 .atHL
  | .bit_5_A => .bitTest 5 (.reg .a)
  | .bit_6_B => .bitTest 6 (.reg .b)
  | .bit_6_C => .bitTest 6 (.reg .c)
  | .bit_6_D => .bitTest 6 (.reg .d)
  | .bit_6_E => .bitTest 6 (.reg .e)
  | .bit_6_H => .bitTest 6 (.reg .h)
  | .bit_6_L => .bitTest 6 (.reg .l)
  | .bit_6_atHL => .bitTest 6 .atHL
  | .bit_6_A => .bitTest 6 (.reg .a)
  | .bit_7_B => .bitTest 7 (.reg .b)
  | .bit_7_C => .bitTest 7 (.reg .c)
  | .bit_7_D => .bitTest 7 (.reg .d)
  | .bit_7_E => .bitTest 7 (.reg .e)
  | .bit_7_H => .bitTest 7 (.reg .h)
  | .bit_7_L => .bitTest 7 (.reg .l)
  | .bit_7_atHL => .bitTest 7 .atHL
  | .bit_7_A => .bitTest 7 (.reg .a)
  | .res_0_B => .bitReset 0 (.reg .b)
  | .res_0_C => .bitReset 0 (.reg .c)
  | .res_0_D => .bitReset 0 (.reg .d)
  | .res_0_E => .bitReset 0 (.reg .e)
  | .res_0_H => .bitReset 0 (.reg .h)
  | .res_0_L => .bitReset 0 (.reg .l)
  | .res_0_atHL => .bitReset 0 .atHL
  | .res_0_A => .bitReset 0 (.reg .a)
  | .res_1_B => .bitReset 1 (.reg .b)
  | .res_1_C => .bitReset 1 (.reg .c)
  | .res_1_D => .bitReset 1 (.reg .d)
  | .res_1_E => .bitReset 1 (.reg .e)
  | .res_1_H => .bitReset 1 (.reg .h)
  | .res_1_L => .bitReset 1 (.reg .l)
  | .res_1_atHL => .bitReset 1 .atHL
  | .res_1_A => .bitReset 1 (.reg .a)
  | .res_2_B => .bitReset 2 (.reg .b)
  | .res_2_C => .bitReset 2 (.reg .c)
  | .res_2_D => .bitReset 2 (.reg .d)
  | .res_2_E => .bitReset 2 (.reg .e)
  | .res_2_H => .bitReset 2 (.reg .h)
  | .res_2_L => .bitReset 2 (.reg .l)
  | .res_2_atHL => .bitReset 2 .atHL
  | .res_2_A => .bitReset 2 (.reg .a)
  | .res_3_B => .bitReset 3 (.reg .b)
  | .res_3_C => .bitReset 3 (.reg .c)
  | .res_3_D => .bitReset 3 (.reg .d)
  | .res_3_E => .bitReset 3 (.reg .e)
  | .res_3_H => .bitReset 3 (.reg .h)
  | .res_3_L => .bitReset 3 (.reg .l)
  | .res_3_atHL => .bitReset 3 .atHL
  | .res_3_A => .bitReset 3 (.reg .a)
  | .res_4_B => .bitReset 4 (.reg .b)
  | .res_4_C => .bitReset 4 (.reg .c)
  | .res_4_D => .bitReset 4 (.reg .d)
  | .res_4_E => .bitReset 4 (.reg .e)
  | .res_4_H => .bitReset 4 (.reg .h)
  | .res_4_L => .bitReset 4 (.reg .l)
  | .res_4_atHL => .bitReset 4 .atHL
  | .res_4_A => .bitReset 4 (.reg .a)
  | .res_5_B => .bitReset 5 (.reg .b)
  | .res_5_C => .bitReset 5 (.reg .c)
  | .res_5_D => .bitReset 5 (.reg .d)
  | .res_5_E => .bitReset 5 (.reg .e)
  | .res_5_H => .bitReset 5 (.reg .h)
  | .res_5_L => .bitReset 5 (.reg .l)
  | .res_5_atHL => .bitReset 5 .atHL
  | .res_5_A => .bitReset 5 (.reg .a)
  | .res_6_B => .bitReset 6 (.reg .b)
  | .res_6_C => .bitReset 6 (.reg .c)
  | .res_6_D => .bitReset 6 (.reg .d)
  | .res_6_E => .bitReset 6 (.reg .e)
  | .res_6_H => .bitReset 6 (.reg .h)
  | .res_6_L => .bitReset 6 (.reg .l)
  | .res_6_atHL => .bitReset 6 .atHL
  | .res_6_A => .bitReset 6 (.reg .a)
  | .res_7_B => .bitReset 7 (.reg .b)
  | .res_7_C => .bitReset 7 (.reg .c)
  | .res_7_D => .bitReset 7 (.reg .d)
  | .res_7_E => .bitReset 7 (.reg .e)
  | .res_7_H => .bitReset 7 (.reg .h)
  | .res_7_L => .bitReset 7 (.reg .l)
  | .res_7_atHL => .bitReset 7 .atHL
  | .res_7_A => .bitReset 7 (.reg .a)
  | .set_0_B => .bitSet 0 (.reg .b)
  | .set_0_C => .bitSet 0 (.reg .c)
  | .set_0_D => .bitSet 0 (.reg .d)
  | .set_0_E => .bitSet 0 (.reg .e)
  | .set_0_H => .bitSet 0 (.reg .h)
  | .set_0_L => .bitSet 0 (.reg .l)
  | .set_0_atHL => .bitSet 0 .atHL
  | .set_0_A => .bitSet 0 (.reg .a)
  | .set_1_B => .bitSet 1 (.reg .b)
  | .set_1_C => .bitSet 1 (.reg .c)
  | .set_1_D => .bitSet 1 (.reg .d)
  | .set_1_E => .bitSet 1 (.reg .e)
  | .set_1_H => .bitSet 1 (.reg .h)
  | .set_1_L => .bitSet 1 (.reg .l)
  | .set_1_atHL => .bitSet 1 .atHL
  | .set_1_A => .bitSet 1 (.reg .a)
  | .set_2_B => .bitSet 2 (.reg .b)
  | .set_2_C => .bitSet 2 (.reg .c)
  | .set_2_D => .bitSet 2 (.reg .d)
  | .set_2_E => .bitSet 2 (.reg .e)
  | .set_2_H => .bitSet 2 (.reg .h)
  | .set_2_L => .bitSet 2 (.reg .l)
  | .set_2_atHL => .bitSet 2 .atHL
  | .set_2_A => .bitSet 2 (.reg .a)
  | .set_3_B => .bitSet 3 (.reg .b)
  | .set_3_C => .bitSet 3 (.reg .c)
  | .set_3_D => .bitSet 3 (.reg .d)
  | .set_3_E => .bitSet 3 (.reg .e)
  | .set_3_H => .bitSet 3 (.reg .h)
  | .set_3_L => .bitSet 3 (.reg .l)
  | .set_3_atHL => .bitSet 3 .atHL
  | .set_3_A => .bitSet 3 (.reg .a)
  | .set_4_B => .bitSet 4 (.reg .b)
  | .set_4_C => .bitSet 4 (.reg .c)
  | .set_4_D => .bitSet 4 (.reg .d)
  | .set_4_E => .bitSet 4 (.reg .e)
  | .set_4_H => .bitSet 4 (.reg .h)
  | .set_4_L => .bitSet 4 (.reg .l)
  | .set_4_atHL => .bitSet 4 .atHL
  | .set_4_A => .bitSet 4 (.reg .a)
  | .set_5_B => .bitSet 5 (.reg .b)
  | .set_5_C => .bitSet 5 (.reg .c)
  | .set_5_D => .bitSet 5 (.reg .d)
  | .set_5_E => .bitSet 5 (.reg .e)
  | .set_5_H => .bitSet 5 (.reg .h)
  | .set_5_L => .bitSet 5 (.reg .l)
  | .set_5_atHL => .bitSet 5 .atHL
  | .set_5_A => .bitSet 5 (.reg .a)
  | .set_6_B => .bitSet 6 (.reg .b)
  | .set_6_C => .bitSet 6 (.reg .c)
  | .set_6_D => .bitSet 6 (.reg .d)
  | .set_6_E => .bitSet 6 (.reg .e)
  | .set_6_H => .bitSet 6 (.reg .h)
  | .set_6_L => .bitSet 6 (.reg .l)
  | .set_6_atHL => .bitSet 6 .atHL
  | .set_6_A => .bitSet 6 (.reg .a)
  | .set_7_B => .bitSet 7 (.reg .b)
  | .set_7_C => .bitSet 7 (.reg .c)
  | .set_7_D => .bitSet 7 (.reg .d)
  | .set_7_E => .bitSet 7 (.reg .e)
  | .set_7_H => .bitSet 7 (.reg .h)
  | .set_7_L => .bitSet 7 (.reg .l)
  | .set_7_atHL => .bitSet 7 .atHL
  | .set_7_A => .bitSet 7 (.reg .a)

/-- The opcodes of the conditional transfers: JR cc, RET cc, JP cc and CALL cc (R616). -/
def conditionalOpcodes : List Byte :=
  [0x20, 0x28, 0x30, 0x38, 0xC0, 0xC8, 0xD0, 0xD8, 0xC2, 0xCA, 0xD2, 0xDA, 0xC4, 0xCC, 0xD4, 0xDC]

/-- What an instruction charges, by its bytes (R615, R616); a byte with no table entry charges nothing (R500). -/
def chargeOf (i : Instr) (s : State) : Nat :=
  match encode i with
  | [] => s.delta
  | op :: rest =>
    if op ∈ unimplementedBytes then s.delta
    else if op = 0xCB then s.costCB (rest.headD 0)
    else if op ∈ conditionalOpcodes then s.costIf op (conditionField op s)
    else s.cost op

/-- The state an instruction leaves: its shared operation, and its charge. -/
def executed (i : Instr) (s : State) : State := ((sharedOp i).run s).charge (chargeOf i s)

/-- Every instruction has a next state. -/
theorem exec_eq (i : Instr) (s : State) : exec i s = .next (executed i s) := by
  cases i <;> rfl

theorem sharedOp_halt {i : Instr} (h : sharedOp i = .halt) : i = .halt := by
  cases i <;> first | rfl | cases h

theorem sharedOp_stop {i : Instr} (h : sharedOp i = .stop) : ∃ b, i = .stop b := by
  cases i <;> first | exact ⟨_, rfl⟩ | cases h

theorem sharedOp_di {i : Instr} (h : sharedOp i = .di) : i = .di := by
  cases i <;> first | rfl | cases h

theorem sharedOp_ei {i : Instr} (h : sharedOp i = .ei) : i = .ei := by
  cases i <;> first | rfl | cases h

theorem sharedOp_reti {i : Instr} (h : sharedOp i = .reti) : i = .reti := by
  cases i <;> first | rfl | cases h

/-! ### Frames: what each shared operation leaves in the fields that few of them write -/

/-- Flags written or not, F keeps its low nibble zero. -/
theorem maskF_flagByte (z n h c : Bool) : maskF (flagByte z n h c) = flagByte z n h c := by
  cases z <;> cases n <;> cases h <;> cases c <;> rfl

@[simp] theorem State.aluWrite_fields (s : State) (op : AluOp) (r : AluOut) :
    (s.aluWrite op r).cfg = s.cfg ∧ (s.aluWrite op r).cycles = s.cycles ∧ (s.aluWrite op r).timaAcc = s.timaAcc ∧
    (s.aluWrite op r).divAcc = s.divAcc ∧ (s.aluWrite op r).mem = s.mem ∧ (s.aluWrite op r).halted = s.halted ∧
    (s.aluWrite op r).stopped = s.stopped ∧ (s.aluWrite op r).ime = s.ime ∧
    (s.aluWrite op r).imePending = s.imePending ∧ (s.aluWrite op r).fault = s.fault := by
  cases op <;> simp [State.aluWrite, State.flagsOf, AluOp.writesA]

/-- No instruction changes the parameters. -/
@[simp] theorem sharedOp_run_cfg (o : SharedOp) (s : State) :
    (o.run s).cfg = s.cfg := by
  cases o <;> simp [SharedOp.run, State.flagsOf, State.jumpRelative, State.callTo,
    ldReg, ldImm, ldFromHL, ldToHL, ldImmToHL, ldAFromPair, ldAToPair, ldAFromAddr, ldAToAddr,
    ldAFromHLThen, ldAToHLThen, ldhTo, ldhFrom, ldToC, ldFromC, ldPairImm, ldSPHL, ldSPToAddr, push, pop,
    alu, aluImm, incOperand, decOperand, daa, cpl, ccf, scf, addHL, incPair, decPair, addSP, ldHLSPe,
    rotateA, rotate, bitTest, bitReset, bitSet, jp, jpIf, jpHL, jr, jrIf, call, callIf, ret, retIf, reti,
    rst, nop, halt, stop, di, ei, raiseUnimplemented, runExtended] <;>
    (try split) <;> simp

/-- No instruction adds cycles itself (R371). -/
@[simp] theorem sharedOp_run_cycles (o : SharedOp) (s : State) :
    (o.run s).cycles = s.cycles := by
  cases o <;> simp [SharedOp.run, State.flagsOf, State.jumpRelative, State.callTo,
    ldReg, ldImm, ldFromHL, ldToHL, ldImmToHL, ldAFromPair, ldAToPair, ldAFromAddr, ldAToAddr,
    ldAFromHLThen, ldAToHLThen, ldhTo, ldhFrom, ldToC, ldFromC, ldPairImm, ldSPHL, ldSPToAddr, push, pop,
    alu, aluImm, incOperand, decOperand, daa, cpl, ccf, scf, addHL, incPair, decPair, addSP, ldHLSPe,
    rotateA, rotate, bitTest, bitReset, bitSet, jp, jpIf, jpHL, jr, jrIf, call, callIf, ret, retIf, reti,
    rst, nop, halt, stop, di, ei, raiseUnimplemented, runExtended] <;>
    (try split) <;> simp

/-- No instruction writes `tima_acc` (R530). -/
@[simp] theorem sharedOp_run_timaAcc (o : SharedOp) (s : State) :
    (o.run s).timaAcc = s.timaAcc := by
  cases o <;> simp [SharedOp.run, State.flagsOf, State.jumpRelative, State.callTo,
    ldReg, ldImm, ldFromHL, ldToHL, ldImmToHL, ldAFromPair, ldAToPair, ldAFromAddr, ldAToAddr,
    ldAFromHLThen, ldAToHLThen, ldhTo, ldhFrom, ldToC, ldFromC, ldPairImm, ldSPHL, ldSPToAddr, push, pop,
    alu, aluImm, incOperand, decOperand, daa, cpl, ccf, scf, addHL, incPair, decPair, addSP, ldHLSPe,
    rotateA, rotate, bitTest, bitReset, bitSet, jp, jpIf, jpHL, jr, jrIf, call, callIf, ret, retIf, reti,
    rst, nop, halt, stop, di, ei, raiseUnimplemented, runExtended] <;>
    (try split) <;> simp

/-- Only HALT sets `halted` (R381). -/
@[simp] theorem sharedOp_run_halted (o : SharedOp) (s : State) :
    (o.run s).halted = (match o with | .halt => true | _ => s.halted) := by
  cases o <;> simp [SharedOp.run, State.flagsOf, State.jumpRelative, State.callTo,
    ldReg, ldImm, ldFromHL, ldToHL, ldImmToHL, ldAFromPair, ldAToPair, ldAFromAddr, ldAToAddr,
    ldAFromHLThen, ldAToHLThen, ldhTo, ldhFrom, ldToC, ldFromC, ldPairImm, ldSPHL, ldSPToAddr, push, pop,
    alu, aluImm, incOperand, decOperand, daa, cpl, ccf, scf, addHL, incPair, decPair, addSP, ldHLSPe,
    rotateA, rotate, bitTest, bitReset, bitSet, jp, jpIf, jpHL, jr, jrIf, call, callIf, ret, retIf, reti,
    rst, nop, halt, stop, di, ei, raiseUnimplemented, runExtended] <;>
    (try split) <;> simp

/-- Only STOP sets `stopped` (R382). -/
@[simp] theorem sharedOp_run_stopped (o : SharedOp) (s : State) :
    (o.run s).stopped = (match o with | .stop => true | _ => s.stopped) := by
  cases o <;> simp [SharedOp.run, State.flagsOf, State.jumpRelative, State.callTo,
    ldReg, ldImm, ldFromHL, ldToHL, ldImmToHL, ldAFromPair, ldAToPair, ldAFromAddr, ldAToAddr,
    ldAFromHLThen, ldAToHLThen, ldhTo, ldhFrom, ldToC, ldFromC, ldPairImm, ldSPHL, ldSPToAddr, push, pop,
    alu, aluImm, incOperand, decOperand, daa, cpl, ccf, scf, addHL, incPair, decPair, addSP, ldHLSPe,
    rotateA, rotate, bitTest, bitReset, bitSet, jp, jpIf, jpHL, jr, jrIf, call, callIf, ret, retIf, reti,
    rst, nop, halt, stop, di, ei, raiseUnimplemented, runExtended] <;>
    (try split) <;> simp

/-- Only DI and RETI write `ime` in their own step (R383, R332). -/
@[simp] theorem sharedOp_run_ime (o : SharedOp) (s : State) :
    (o.run s).ime = (match o with | .di => false | .reti => true | _ => s.ime) := by
  cases o <;> simp [SharedOp.run, State.flagsOf, State.jumpRelative, State.callTo,
    ldReg, ldImm, ldFromHL, ldToHL, ldImmToHL, ldAFromPair, ldAToPair, ldAFromAddr, ldAToAddr,
    ldAFromHLThen, ldAToHLThen, ldhTo, ldhFrom, ldToC, ldFromC, ldPairImm, ldSPHL, ldSPToAddr, push, pop,
    alu, aluImm, incOperand, decOperand, daa, cpl, ccf, scf, addHL, incPair, decPair, addSP, ldHLSPe,
    rotateA, rotate, bitTest, bitReset, bitSet, jp, jpIf, jpHL, jr, jrIf, call, callIf, ret, retIf, reti,
    rst, nop, halt, stop, di, ei, raiseUnimplemented, runExtended] <;>
    (try split) <;> simp

/-- Only EI writes `ime_pending` (R384). -/
@[simp] theorem sharedOp_run_imePending (o : SharedOp) (s : State) :
    (o.run s).imePending = (match o with | .ei => true | _ => s.imePending) := by
  cases o <;> simp [SharedOp.run, State.flagsOf, State.jumpRelative, State.callTo,
    ldReg, ldImm, ldFromHL, ldToHL, ldImmToHL, ldAFromPair, ldAToPair, ldAFromAddr, ldAToAddr,
    ldAFromHLThen, ldAToHLThen, ldhTo, ldhFrom, ldToC, ldFromC, ldPairImm, ldSPHL, ldSPToAddr, push, pop,
    alu, aluImm, incOperand, decOperand, daa, cpl, ccf, scf, addHL, incPair, decPair, addSP, ldHLSPe,
    rotateA, rotate, bitTest, bitReset, bitSet, jp, jpIf, jpHL, jr, jrIf, call, callIf, ret, retIf, reti,
    rst, nop, halt, stop, di, ei, raiseUnimplemented, runExtended] <;>
    (try split) <;> simp

/-- Only a byte with no table entry records a fault (R501). -/
@[simp] theorem sharedOp_run_fault (o : SharedOp) (s : State) :
    (o.run s).fault = (match o with | .raiseUnimplemented op => some ⟨.unimplementedOpcode, op, false, s.pc⟩ | _ => s.fault) := by
  cases o <;> simp [SharedOp.run, State.flagsOf, State.jumpRelative, State.callTo,
    ldReg, ldImm, ldFromHL, ldToHL, ldImmToHL, ldAFromPair, ldAToPair, ldAFromAddr, ldAToAddr,
    ldAFromHLThen, ldAToHLThen, ldhTo, ldhFrom, ldToC, ldFromC, ldPairImm, ldSPHL, ldSPToAddr, push, pop,
    alu, aluImm, incOperand, decOperand, daa, cpl, ccf, scf, addHL, incPair, decPair, addSP, ldHLSPe,
    rotateA, rotate, bitTest, bitReset, bitSet, jp, jpIf, jpHL, jr, jrIf, call, callIf, ret, retIf, reti,
    rst, nop, halt, stop, di, ei, raiseUnimplemented, runExtended] <;>
    (try split) <;> simp

/-! ### Memory under the shared operations -/

theorem State.dst8_mem_wf (s : State) (o : Operand8) (v : Byte) (h : s.mem.wf = true) :
    (s.dst8 o v).mem.wf = true := by
  cases o with
  | reg r => cases r <;> exact h
  | atHL => exact s.writeByte_mem_wf s.hl v h

theorem State.dst8_divAcc_lt (s : State) (o : Operand8) (v : Byte) (h : s.divAcc < 256) :
    (s.dst8 o v).divAcc < 256 := by
  cases o with
  | reg r => cases r <;> exact h
  | atHL => exact s.writeByte_divAcc_lt s.hl v h

theorem State.push16_mem_wf (s : State) (v : Word) (h : s.mem.wf = true) : (s.push16 v).mem.wf = true :=
  State.writeByte_mem_wf _ _ _ (State.writeByte_mem_wf _ _ _ h)

theorem State.push16_divAcc_lt (s : State) (v : Word) (h : s.divAcc < 256) : (s.push16 v).divAcc < 256 :=
  State.writeByte_divAcc_lt _ _ _ (State.writeByte_divAcc_lt _ _ _ h)

/-- A bus write does not change ROM (R68). -/
theorem State.readByte_writeByte_rom (s : State) {y : Word} (x : Word) (v : Byte) (h : y.toNat < s.cfg.romEnd) :
    (s.writeByte x v).readByte y = s.readByte y := by
  have := (s.writeByte_busWrite x v).1 y
  rw [this, if_neg]
  rintro ⟨rfl, h'⟩
  omega

theorem State.readByte_dst8_rom (s : State) {y : Word} (o : Operand8) (v : Byte) (h : y.toNat < s.cfg.romEnd) :
    (s.dst8 o v).readByte y = s.readByte y := by
  cases o with
  | reg r => exact s.readByte_setReg8 r v y
  | atHL => exact s.readByte_writeByte_rom s.hl v h

theorem State.readByte_push16_rom (s : State) {y : Word} (v : Word) (h : y.toNat < s.cfg.romEnd) :
    (s.push16 v).readByte y = s.readByte y := by
  unfold State.push16
  rw [State.readByte_writeByte_rom _ _ _ (by simpa using h)]
  exact State.readByte_writeByte_rom { s with sp := s.sp - 1 } (s.sp - 1) (hiByte v) h

theorem maskF_maskF (v : Byte) : maskF (maskF v) = maskF v := by
  unfold maskF
  rw [BitVec.and_assoc]
  rfl

theorem State.setStackPair_f (s : State) (p : StackPair) (v : Word) (h : maskF s.f = s.f) :
    maskF (s.setStackPair p v).f = (s.setStackPair p v).f := by
  cases p
  · exact h
  · exact h
  · exact h
  · exact maskF_maskF _

theorem State.readByte_setPair (s : State) (p : Pair) (v : Word) (y : Word) :
    (s.setPair p v).readByte y = s.readByte y := by cases p <;> rfl
@[simp] theorem State.aluWrite_f (s : State) (op : AluOp) (r : AluOut) :
    (s.aluWrite op r).f = flagByte r.z r.n r.h r.c := by cases op <;> rfl
theorem State.readByte_aluWrite (s : State) (op : AluOp) (r : AluOut) (y : Word) :
    (s.aluWrite op r).readByte y = s.readByte y := by cases op <;> rfl
theorem State.readByte_setStackPair (s : State) (p : StackPair) (v : Word) (y : Word) :
    (s.setStackPair p v).readByte y = s.readByte y := by cases p <;> rfl

/-- Memory stays canonical under every shared operation. -/
theorem sharedOp_run_mem_wf (o : SharedOp) (s : State) (h : s.mem.wf = true) :
    (o.run s).mem.wf = true := by
  cases o <;> simp [SharedOp.run, State.flagsOf, State.jumpRelative, State.callTo, h, State.writeByte_mem_wf,
    State.dst8_mem_wf, State.push16_mem_wf,
    ldReg, ldImm, ldFromHL, ldToHL, ldImmToHL, ldAFromPair, ldAToPair, ldAFromAddr, ldAToAddr,
    ldAFromHLThen, ldAToHLThen, ldhTo, ldhFrom, ldToC, ldFromC, ldPairImm, ldSPHL, ldSPToAddr, push, pop,
    alu, aluImm, incOperand, decOperand, daa, cpl, ccf, scf, addHL, incPair, decPair, addSP, ldHLSPe,
    rotateA, rotate, bitTest, bitReset, bitSet, jp, jpIf, jpHL, jr, jrIf, call, callIf, ret, retIf, reti,
    rst, nop, halt, stop, di, ei, raiseUnimplemented, runExtended] <;>
    (try split) <;> first | rfl | simp [h, State.dst8_mem_wf, State.push16_mem_wf]

/-- `div_acc` stays in its range under every shared operation. -/
theorem sharedOp_run_divAcc_lt (o : SharedOp) (s : State) (h : s.divAcc < 256) :
    (o.run s).divAcc < 256 := by
  cases o <;> simp [SharedOp.run, State.flagsOf, State.jumpRelative, State.callTo, h, State.writeByte_divAcc_lt,
    State.dst8_divAcc_lt, State.push16_divAcc_lt,
    ldReg, ldImm, ldFromHL, ldToHL, ldImmToHL, ldAFromPair, ldAToPair, ldAFromAddr, ldAToAddr,
    ldAFromHLThen, ldAToHLThen, ldhTo, ldhFrom, ldToC, ldFromC, ldPairImm, ldSPHL, ldSPToAddr, push, pop,
    alu, aluImm, incOperand, decOperand, daa, cpl, ccf, scf, addHL, incPair, decPair, addSP, ldHLSPe,
    rotateA, rotate, bitTest, bitReset, bitSet, jp, jpIf, jpHL, jr, jrIf, call, callIf, ret, retIf, reti,
    rst, nop, halt, stop, di, ei, raiseUnimplemented, runExtended] <;>
    (try split) <;> first | rfl | simp [h, State.dst8_divAcc_lt, State.push16_divAcc_lt]

/-- ROM is unchanged by every shared operation. -/
theorem sharedOp_run_rom (o : SharedOp) (s : State) {y : Word} (h : y.toNat < s.cfg.romEnd) :
    (o.run s).readByte y = s.readByte y := by
  cases o <;> simp [SharedOp.run, State.flagsOf, State.jumpRelative, State.callTo, h, State.readByte_writeByte_rom,
    State.readByte_setPair, State.readByte_setStackPair, State.readByte_aluWrite, State.readByte_dst8_rom, State.readByte_push16_rom,
    ldReg, ldImm, ldFromHL, ldToHL, ldImmToHL, ldAFromPair, ldAToPair, ldAFromAddr, ldAToAddr,
    ldAFromHLThen, ldAToHLThen, ldhTo, ldhFrom, ldToC, ldFromC, ldPairImm, ldSPHL, ldSPToAddr, push, pop,
    alu, aluImm, incOperand, decOperand, daa, cpl, ccf, scf, addHL, incPair, decPair, addSP, ldHLSPe,
    rotateA, rotate, bitTest, bitReset, bitSet, jp, jpIf, jpHL, jr, jrIf, call, callIf, ret, retIf, reti,
    rst, nop, halt, stop, di, ei, raiseUnimplemented, runExtended] <;>
    (try split) <;> first | rfl | simp [h, State.readByte_dst8_rom, State.readByte_push16_rom]

/-- F keeps its low nibble zero under every shared operation (R24). -/
theorem sharedOp_run_f (o : SharedOp) (s : State) (h : maskF s.f = s.f) :
    maskF (o.run s).f = (o.run s).f := by
  cases o <;> simp [SharedOp.run, State.flagsOf, State.jumpRelative, State.callTo, h,
    maskF_flagByte, State.setStackPair_f,
    ldReg, ldImm, ldFromHL, ldToHL, ldImmToHL, ldAFromPair, ldAToPair, ldAFromAddr, ldAToAddr,
    ldAFromHLThen, ldAToHLThen, ldhTo, ldhFrom, ldToC, ldFromC, ldPairImm, ldSPHL, ldSPToAddr, push, pop,
    alu, aluImm, incOperand, decOperand, daa, cpl, ccf, scf, addHL, incPair, decPair, addSP, ldHLSPe,
    rotateA, rotate, bitTest, bitReset, bitSet, jp, jpIf, jpHL, jr, jrIf, call, callIf, ret, retIf, reti,
    rst, nop, halt, stop, di, ei, raiseUnimplemented, runExtended] <;>
    (try split) <;> first | rfl | simp [h, maskF_flagByte]

/-! ### The same of a whole instruction: the charge writes `delta` only -/

@[simp] theorem executed_cfg (i : Instr) (s : State) : (executed i s).cfg = s.cfg :=
  sharedOp_run_cfg _ s
@[simp] theorem executed_cycles (i : Instr) (s : State) : (executed i s).cycles = s.cycles :=
  sharedOp_run_cycles _ s
@[simp] theorem executed_timaAcc (i : Instr) (s : State) : (executed i s).timaAcc = s.timaAcc :=
  sharedOp_run_timaAcc _ s
@[simp] theorem executed_halted (i : Instr) (s : State) : (executed i s).halted = (match sharedOp i with | .halt => true | _ => s.halted) :=
  sharedOp_run_halted _ s
@[simp] theorem executed_stopped (i : Instr) (s : State) : (executed i s).stopped = (match sharedOp i with | .stop => true | _ => s.stopped) :=
  sharedOp_run_stopped _ s
@[simp] theorem executed_ime (i : Instr) (s : State) : (executed i s).ime = (match sharedOp i with | .di => false | .reti => true | _ => s.ime) :=
  sharedOp_run_ime _ s
@[simp] theorem executed_imePending (i : Instr) (s : State) : (executed i s).imePending = (match sharedOp i with | .ei => true | _ => s.imePending) :=
  sharedOp_run_imePending _ s
@[simp] theorem executed_fault (i : Instr) (s : State) : (executed i s).fault = 
      (match sharedOp i with | .raiseUnimplemented op => some ⟨.unimplementedOpcode, op, false, s.pc⟩ | _ => s.fault) :=
  sharedOp_run_fault _ s

theorem executed_rom (i : Instr) (s : State) {y : Word} (h : y.toNat < s.cfg.romEnd) :
    (executed i s).readByte y = s.readByte y := sharedOp_run_rom _ s h

/-- Every instruction keeps the invariant of the machine's data. -/
theorem executed_wf (i : Instr) (s : State) (h : s.wf = true) : (executed i s).wf = true := by
  simp only [State.wf, Bool.and_eq_true, decide_eq_true_eq] at h ⊢
  obtain ⟨⟨⟨h1, h2⟩, h3⟩, h4⟩ := h
  exact ⟨⟨⟨sharedOp_run_mem_wf _ s h1, (sharedOp_run_f _ s h2.symm).symm⟩, sharedOp_run_divAcc_lt _ s h3⟩,
    by rw [executed_timaAcc]; exact h4⟩

end Sys2Proof.Machine
end

