-- ==== Sys2Proof/Laws/Timer.lean ====
section
/-! SUPPORT. What the Timer's ticks, an advance, interrupt entry and the interrupt check read and keep. -/

namespace Sys2Proof.Machine

/-! ### Ticks -/

theorem State.readByte_divTick (s : State) (y : Word) :
    s.divTick.readByte y = if y = addrDIV then s.readByte addrDIV + 1 else s.readByte y :=
  s.readByte_poke addrDIV y _

theorem State.readByte_timaTick (s : State) (y : Word) :
    s.timaTick.readByte y =
      if s.readByte addrTIMA = 0xFF then
        (if y = addrIF then s.readByte addrIF ||| 0x04#8
          else if y = addrTIMA then s.readByte addrTMA else s.readByte y)
      else if y = addrTIMA then s.readByte addrTIMA + 1 else s.readByte y := by
  unfold State.timaTick
  split
  · simp only [State.readByte_poke]
    have : ¬ addrIF = addrTIMA := by decide
    simp [this]
  · exact s.readByte_poke addrTIMA y _

/-- A tick of TIMA reads the same after a change elsewhere than memory. -/
theorem State.timaTick_mem_congr {s t : State} (h : t.mem = s.mem) : t.timaTick.mem = s.timaTick.mem := by
  have hr : ∀ y, t.readByte y = s.readByte y := State.readByte_congr h
  unfold State.timaTick
  by_cases e : s.readByte addrTIMA = 0xFF
  · have e' : t.readByte addrTIMA = 0xFF := by rw [hr, e]
    rw [if_pos e, if_pos e']
    have hm : (t.poke addrTIMA (t.readByte addrTMA)).mem = (s.poke addrTIMA (s.readByte addrTMA)).mem := by
      rw [State.poke_mem, State.poke_mem, h, hr]
    change ((t.poke addrTIMA (t.readByte addrTMA)).mem.put addrIF.toNat _) =
      ((s.poke addrTIMA (s.readByte addrTMA)).mem.put addrIF.toNat _)
    rw [hm, State.readByte_congr hm]
  · have e' : ¬ t.readByte addrTIMA = 0xFF := by rw [hr]; exact e
    rw [if_neg e, if_neg e', State.poke_mem, State.poke_mem, h, hr]

theorem State.timaTicks_mem_congr (n : Nat) {s t : State} (h : t.mem = s.mem) :
    (State.timaTicks n t).mem = (State.timaTicks n s).mem := by
  induction n generalizing s t with
  | zero => exact h
  | succ n ih => exact ih (State.timaTick_mem_congr h)

theorem State.divTicks_mem_congr (n : Nat) {s t : State} (h : t.mem = s.mem) :
    (State.divTicks n t).mem = (State.divTicks n s).mem := by
  induction n generalizing s t with
  | zero => exact h
  | succ n ih =>
    refine ih ?_
    simp [State.divTick, State.readByte, h]

theorem State.timaTicks_add (m n : Nat) (s : State) :
    State.timaTicks (m + n) s = State.timaTicks n (State.timaTicks m s) := by
  induction m generalizing s with
  | zero => simp [State.timaTicks]
  | succ m ih => rw [Nat.succ_add]; exact ih _

theorem State.divTicks_add (m n : Nat) (s : State) :
    State.divTicks (m + n) s = State.divTicks n (State.divTicks m s) := by
  induction m generalizing s with
  | zero => simp [State.divTicks]
  | succ m ih => rw [Nat.succ_add]; exact ih _

/-- `n` increments of DIV: DIV grows by `n` modulo 256, and no other byte changes. -/
theorem State.readByte_divTicks (n : Nat) (s : State) (y : Word) :
    (State.divTicks n s).readByte y =
      if y = addrDIV then s.readByte addrDIV + BitVec.ofNat 8 n else s.readByte y := by
  induction n generalizing s with
  | zero => unfold State.divTicks; split <;> simp_all
  | succ n ih =>
    have e : ∀ v : Byte, v + 1 + BitVec.ofNat 8 n = v + BitVec.ofNat 8 (n + 1) := by
      intro v
      rw [BitVec.add_assoc, show (1 : Byte) = BitVec.ofNat 8 1 from rfl, ← BitVec.ofNat_add, Nat.add_comm]
    simp only [State.divTicks, ih, State.readByte_divTick]
    split <;> simp_all

/-- Ticks of TIMA write TIMA and, in IF, at most bit 2. -/
theorem State.readByte_timaTicks_other (n : Nat) (s : State) {y : Word} (h : y ≠ addrTIMA) (h' : y ≠ addrIF) :
    (State.timaTicks n s).readByte y = s.readByte y := by
  induction n generalizing s with
  | zero => rfl
  | succ n ih =>
    rw [State.timaTicks, ih, State.readByte_timaTick]
    simp [h, h']

theorem State.readByte_timaTicks_IF (n : Nat) (s : State) :
    (State.timaTicks n s).readByte addrIF = s.readByte addrIF ∨
      (State.timaTicks n s).readByte addrIF = s.readByte addrIF ||| 0x04#8 := by
  induction n generalizing s with
  | zero => exact .inl rfl
  | succ n ih =>
    have hne : ¬ addrIF = addrTIMA := by decide
    rw [State.timaTicks]
    have h := ih s.timaTick
    rw [State.readByte_timaTick] at h
    simp only [hne, if_false, if_true] at h
    split at h
    · rw [BitVec.or_assoc, BitVec.or_self] at h
      exact .inr (h.elim id id)
    · exact h

/-- Short of an overflow, `n` ticks add `n` to TIMA and leave IF alone. -/
theorem State.timaTicks_no_overflow (n : Nat) (s : State) (h : (s.readByte addrTIMA).toNat + n < 256) :
    ((State.timaTicks n s).readByte addrTIMA).toNat = (s.readByte addrTIMA).toNat + n ∧
    (State.timaTicks n s).readByte addrIF = s.readByte addrIF := by
  induction n generalizing s with
  | zero => exact ⟨rfl, rfl⟩
  | succ n ih =>
    have hne : ¬ s.readByte addrTIMA = 0xFF := by
      intro e
      rw [e] at h
      exact absurd h (by simp; omega)
    have hIF : ¬ addrIF = addrTIMA := by decide
    have h1 : s.timaTick.readByte addrTIMA = s.readByte addrTIMA + 1 := by
      rw [State.readByte_timaTick, if_neg hne, if_pos rfl]
    have h2 : s.timaTick.readByte addrIF = s.readByte addrIF := by
      rw [State.readByte_timaTick, if_neg hne, if_neg hIF]
    have h3 : (s.readByte addrTIMA + 1).toNat = (s.readByte addrTIMA).toNat + 1 := by
      rw [BitVec.toNat_add]
      exact Nat.mod_eq_of_lt (by simp; omega)
    have := ih s.timaTick (by rw [h1, h3]; omega)
    rw [State.timaTicks, this.1, this.2, h1, h2, h3]
    exact ⟨by omega, rfl⟩

/-- Ticks of TIMA that pass 0xFF: IF bit 2 is set, and TIMA counts on from TMA, which it reloads every 256 - TMA
ticks (R534). -/
theorem State.timaTicks_overflow (n : Nat) (s : State) (h : 256 ≤ (s.readByte addrTIMA).toNat + n) :
    ((State.timaTicks n s).readByte addrTIMA).toNat = (s.readByte addrTMA).toNat +
      ((s.readByte addrTIMA).toNat + n - 256) % (256 - (s.readByte addrTMA).toNat) ∧
    (State.timaTicks n s).readByte addrIF = s.readByte addrIF ||| 0x04#8 := by
  induction n generalizing s with
  | zero => have := (s.readByte addrTIMA).isLt; omega
  | succ n ih =>
    have hM : s.timaTick.readByte addrTMA = s.readByte addrTMA := by
      rw [s.readByte_timaTick]; split <;> rfl
    have hlt := (s.readByte addrTMA).isLt
    rw [State.timaTicks]
    by_cases hf : s.readByte addrTIMA = 0xFF
    · have hT : s.timaTick.readByte addrTIMA = s.readByte addrTMA := by rw [s.readByte_timaTick, if_pos hf]; rfl
      have hI : s.timaTick.readByte addrIF = s.readByte addrIF ||| 0x04#8 := by
        rw [s.readByte_timaTick, if_pos hf]; rfl
      have h255 : (s.readByte addrTIMA).toNat = 255 := by rw [hf]; rfl
      rw [h255, show 255 + (n + 1) - 256 = n by omega]
      by_cases hn : (s.readByte addrTMA).toNat + n < 256
      · have := State.timaTicks_no_overflow n s.timaTick (by rw [hT]; exact hn)
        rw [this.1, this.2, hT, hI, Nat.mod_eq_of_lt (by omega)]
        exact ⟨rfl, rfl⟩
      · have := ih s.timaTick (by rw [hT]; omega)
        rw [this.1, this.2, hT, hM, hI, Nat.mod_eq_sub_mod (a := n) (by omega), BitVec.or_assoc, BitVec.or_self,
          show n - (256 - (s.readByte addrTMA).toNat) = (s.readByte addrTMA).toNat + n - 256 by omega]
        exact ⟨rfl, rfl⟩
    · have hT : s.timaTick.readByte addrTIMA = s.readByte addrTIMA + 1 := by
        rw [s.readByte_timaTick, if_neg hf]; rfl
      have hI : s.timaTick.readByte addrIF = s.readByte addrIF := by rw [s.readByte_timaTick, if_neg hf]; rfl
      have hne : (s.readByte addrTIMA).toNat ≠ 255 := fun e => hf (BitVec.eq_of_toNat_eq e)
      have := (s.readByte addrTIMA).isLt
      have hTn : (s.timaTick.readByte addrTIMA).toNat = (s.readByte addrTIMA).toNat + 1 := by
        rw [hT, BitVec.toNat_add]; simp; omega
      have := ih s.timaTick (by omega)
      rw [this.1, this.2, hTn, hM, hI, show ∀ a : Nat, a + 1 + n = a + (n + 1) by omega]
      exact ⟨rfl, rfl⟩

/-! ### An advance -/

theorem State.advanceDiv_mem (s : State) (clk : Nat) :
    (s.advanceDiv clk).mem = (State.divTicks ((s.divAcc + clk) / 256) s).mem := rfl

/-- What an advance of the DIV loop reads as. -/
theorem State.readByte_advanceDiv (s : State) (clk : Nat) (y : Word) :
    (s.advanceDiv clk).readByte y =
      if y = addrDIV then s.readByte addrDIV + BitVec.ofNat 8 ((s.divAcc + clk) / 256) else s.readByte y :=
  State.readByte_divTicks _ s y

/-- The TIMA loop of an advance does nothing while TAC[2] is 0. -/
theorem State.advanceTima_disabled (s : State) (clk : Nat) (h : timerEnabled (s.readByte addrTAC) = false) :
    s.advanceTima clk = s := by
  simp [State.advanceTima, h]

/-- The TIMA loop of an advance while TAC[2] is 1. -/
theorem State.advanceTima_enabled (s : State) (clk : Nat) (h : timerEnabled (s.readByte addrTAC) = true) :
    s.advanceTima clk =
      { State.timaTicks ((s.timaAcc + clk) / timerPeriod (s.readByte addrTAC)) s with
        timaAcc := (s.timaAcc + clk) % timerPeriod (s.readByte addrTAC) } := by
  simp [State.advanceTima, h]

theorem timerPeriod_pos (tac : Byte) : 0 < timerPeriod tac ∧ timerPeriod tac ≤ 1024 := by
  unfold timerPeriod
  split <;> decide

/-- An advance leaves every byte alone but DIV, TIMA and IF. -/
theorem State.readByte_advanceTimer_other (s : State) (clk : Nat) {y : Word} (h1 : y ≠ addrDIV)
    (h2 : y ≠ addrTIMA) (h3 : y ≠ addrIF) : (s.advanceTimer clk).readByte y = s.readByte y := by
  unfold State.advanceTimer
  have hd : (s.advanceDiv clk).readByte y = s.readByte y := by rw [State.readByte_advanceDiv, if_neg h1]
  cases h : timerEnabled ((s.advanceDiv clk).readByte addrTAC) with
  | false => rw [State.advanceTima_disabled _ _ h, hd]
  | true =>
    rw [State.advanceTima_enabled _ _ h]
    exact (State.readByte_timaTicks_other _ _ h2 h3).trans hd

/-- An advance sets, in IF, at most bit 2. -/
theorem State.readByte_advanceTimer_IF (s : State) (clk : Nat) :
    (s.advanceTimer clk).readByte addrIF = s.readByte addrIF ∨
      (s.advanceTimer clk).readByte addrIF = s.readByte addrIF ||| 0x04#8 := by
  unfold State.advanceTimer
  have hne : ¬ addrIF = addrDIV := by decide
  have hd : (s.advanceDiv clk).readByte addrIF = s.readByte addrIF := by
    rw [State.readByte_advanceDiv, if_neg hne]
  cases h : timerEnabled ((s.advanceDiv clk).readByte addrTAC) with
  | false => rw [State.advanceTima_disabled _ _ h, hd]; exact .inl rfl
  | true =>
    rw [State.advanceTima_enabled _ _ h, ← hd]
    exact State.readByte_timaTicks_IF _ _

/-! ### The canonical form and the accumulators -/

theorem State.timaTicks_mem_wf (n : Nat) (s : State) (h : s.mem.wf = true) :
    (State.timaTicks n s).mem.wf = true := by
  induction n generalizing s with
  | zero => exact h
  | succ n ih =>
    refine ih _ ?_
    unfold State.timaTick
    split
    · exact State.poke_mem_wf _ _ _ (State.poke_mem_wf _ _ _ h)
    · exact State.poke_mem_wf _ _ _ h

theorem State.divTicks_mem_wf (n : Nat) (s : State) (h : s.mem.wf = true) :
    (State.divTicks n s).mem.wf = true := by
  induction n generalizing s with
  | zero => exact h
  | succ n ih => exact ih _ (State.poke_mem_wf _ _ _ h)

theorem State.advanceTimer_mem_wf (s : State) (clk : Nat) (h : s.mem.wf = true) :
    (s.advanceTimer clk).mem.wf = true := by
  have hd : (s.advanceDiv clk).mem.wf = true := State.divTicks_mem_wf _ s h
  unfold State.advanceTimer State.advanceTima
  simp only []
  split
  · exact State.timaTicks_mem_wf _ _ hd
  · exact hd

theorem State.advanceTimer_timaAcc_lt (s : State) (clk : Nat) (h : s.timaAcc < 1024) :
    (s.advanceTimer clk).timaAcc < 1024 := by
  unfold State.advanceTimer
  cases he : timerEnabled ((s.advanceDiv clk).readByte addrTAC) with
  | false => rw [State.advanceTima_disabled _ _ he]; simpa using h
  | true =>
    rw [State.advanceTima_enabled _ _ he]
    have := timerPeriod_pos ((s.advanceDiv clk).readByte addrTAC)
    exact Nat.lt_of_lt_of_le (Nat.mod_lt _ this.1) this.2

/-! ### Interrupt entry and the interrupt check -/

/-- The three outcomes of the interrupt check (R515): nothing; `halted` ended; one entry. -/
theorem State.interruptCheck_cases (s : State) :
    s.interruptCheck = s ∨
    (s.cfg.dispatch = .standard ∧ s.ime = false ∧ s.pendingInterrupts ≠ 0 ∧
      s.interruptCheck = { s with halted := false }) ∨
    (s.cfg.dispatch = .standard ∧ s.ime = true ∧ s.pendingInterrupts ≠ 0 ∧
      s.interruptCheck =
        ({ s with halted := false } : State).dispatchInterrupt (lowestSetBit s.pendingInterrupts)) := by
  unfold State.interruptCheck
  cases hd : s.cfg.dispatch with
  | absent => exact .inl rfl
  | standard =>
    simp only []
    split
    · exact .inl rfl
    · split
      · exact .inl rfl
      · next hp =>
        cases hi : s.ime with
        | false => exact .inr (.inl ⟨trivial, rfl, hp, rfl⟩)
        | true => exact .inr (.inr ⟨trivial, rfl, hp, rfl⟩)

theorem lowestSetBit_lt (p : Byte) : lowestSetBit p < 5 := by
  unfold lowestSetBit
  repeat' split
  all_goals decide

theorem State.pendingInterrupts_lt (s : State) : s.pendingInterrupts.toNat < 32 := by
  rw [State.pendingInterrupts, BitVec.toNat_and]
  exact Nat.lt_of_le_of_lt Nat.and_le_right (by decide)

/-- The lowest set bit is set, and no lower bit is (R514). -/
theorem lowestSetBit_spec {p : Byte} (h : p ≠ 0) (h' : p.toNat < 32) :
    lowestSetBit p < 5 ∧ p.getLsbD (lowestSetBit p) = true ∧ ∀ j < lowestSetBit p, p.getLsbD j = false := by
  revert p; decide

theorem State.enterInterrupt_mem_wf (s : State) (k : Nat) (h : s.mem.wf = true) :
    (s.enterInterrupt k).mem.wf = true :=
  State.writeByte_mem_wf _ _ _ (State.writeByte_mem_wf _ _ _ (State.writeByte_mem_wf _ _ _ h))

theorem State.enterInterrupt_divAcc_lt (s : State) (k : Nat) (h : s.divAcc < 256) :
    (s.enterInterrupt k).divAcc < 256 :=
  State.writeByte_divAcc_lt _ _ _ (State.writeByte_divAcc_lt _ _ _ (State.writeByte_divAcc_lt _ _ _ h))

end Sys2Proof.Machine
end

