-- ==== Sys2Proof/Laws/Step.lean ====
section
/-! SUPPORT. What a step can do, said once: its two cases, and what the parts around `exec` leave alone. -/

namespace Sys2Proof.Machine

theorem State.Running.runState {s : State} (h : s.Running) : s.runState = .running := by
  simp [State.runState, h.2.1, h.2.2]

theorem State.InHalt.runState {s : State} (h : s.InHalt) : s.runState = .halted := by
  simp [State.runState, h.2.1, h.2.2]

/-- A step of a running state. -/
theorem step_running {s : State} (h : s.Running) :
    step s = .next ((executed s.fetchInstr s).afterExec s.fetchInstr s.imePending) := by
  simp [step, h.1, h.runState, exec_eq]

/-- A step of a halted state. -/
theorem step_inHalt {s : State} (h : s.InHalt) : step s = .next s.haltedStep := by
  simp [step, h.1, h.runState]

/-- Everything a step can do. -/
theorem step_cases {s t : State} (h : step s = .next t) :
    (s.InHalt ∧ t = s.haltedStep) ∨
    (s.Running ∧ t = (executed s.fetchInstr s).afterExec s.fetchInstr s.imePending) := by
  cases hf : s.fault with
  | some r => simp [step, hf] at h
  | none =>
    cases hs : s.stopped with
    | true => simp [step, hf, State.runState, hs] at h
    | false =>
      cases hh : s.halted with
      | true =>
        rw [step_inHalt ⟨hf, hs, hh⟩] at h
        injection h with h
        exact .inl ⟨⟨hf, hs, hh⟩, h.symm⟩
      | false =>
        rw [step_running ⟨hf, hs, hh⟩] at h
        injection h with h
        exact .inr ⟨⟨hf, hs, hh⟩, h.symm⟩

/-! ### The interrupt check -/

theorem State.interruptCheck_cfg (s : State) : s.interruptCheck.cfg = s.cfg := by
  rcases s.interruptCheck_cases with h | ⟨-, -, -, h⟩ | ⟨-, -, -, h⟩ <;> rw [h]
  simp [State.dispatchInterrupt]

theorem State.interruptCheck_fault (s : State) : s.interruptCheck.fault = s.fault := by
  rcases s.interruptCheck_cases with h | ⟨-, -, -, h⟩ | ⟨-, -, -, h⟩ <;> rw [h]
  simp [State.dispatchInterrupt]

theorem State.interruptCheck_stopped (s : State) : s.interruptCheck.stopped = s.stopped := by
  rcases s.interruptCheck_cases with h | ⟨-, -, -, h⟩ | ⟨-, -, -, h⟩ <;> rw [h]
  simp [State.dispatchInterrupt]

theorem State.interruptCheck_delta (s : State) : s.interruptCheck.delta = s.delta := by
  rcases s.interruptCheck_cases with h | ⟨-, -, -, h⟩ | ⟨-, -, -, h⟩ <;> rw [h]
  simp [State.dispatchInterrupt]

theorem State.interruptCheck_f (s : State) : s.interruptCheck.f = s.f := by
  rcases s.interruptCheck_cases with h | ⟨-, -, -, h⟩ | ⟨-, -, -, h⟩ <;> rw [h]
  simp [State.dispatchInterrupt]

/-- The check never sets `halted` (R515, R516). -/
theorem State.interruptCheck_halted (s : State) (h : s.halted = false) : s.interruptCheck.halted = false := by
  rcases s.interruptCheck_cases with e | ⟨-, -, -, e⟩ | ⟨-, -, -, e⟩ <;> rw [e]
  · exact h
  · simp [State.dispatchInterrupt]

/-- Everything the interrupt check can do (R515 to R518), in the words of the statements: nothing; the end of
Halted with `ime` clear; one entry. -/
theorem State.interruptCheck_enters {s : State} (hf : s.fault = none) (hs : s.stopped = false) :
    s.interruptCheck = s ∨ (s.ime = false ∧ s.interruptCheck = { s with halted := false }) ∨
    EntersInterrupt s (lowestSetBit s.pendingInterrupts) s.interruptCheck := by
  rcases s.interruptCheck_cases with h | ⟨-, hi, -, h⟩ | ⟨hd, hi, hp, h⟩
  · exact .inl h
  · exact .inr (.inl ⟨hi, h⟩)
  · obtain ⟨hk, hset, hlow⟩ := lowestSetBit_spec hp (s.pendingInterrupts_lt)
    have hb : ∀ j < 5, s.pendingInterrupts.getLsbD j =
        ((s.readByte 0xFFFF).getLsbD j && (s.readByte 0xFF0F).getLsbD j) := by
      intro j hj
      rw [State.pendingInterrupts, BitVec.getLsbD_and, BitVec.getLsbD_and]
      interval_cases j <;> exact Bool.and_true _
    rw [hb _ hk, Bool.and_eq_true] at hset
    refine .inr (.inr ⟨hd, ⟨hf, hs⟩, hi, hk, hset.1, hset.2, ?_, ?_⟩)
    · intro j hj
      have := hlow j hj
      rw [hb j (by omega)] at this
      simpa using this
    · rw [h, State.dispatchInterrupt]
      simp [entryCycles]

/-- A direct or a bus write to the top of memory changes no ROM byte below it. -/
theorem State.readByte_enterInterrupt_rom (s : State) {y : Word} (k : Nat) (h : y.toNat < s.cfg.romEnd) :
    (s.enterInterrupt k).readByte y = s.readByte y := by
  unfold State.enterInterrupt
  simp only []
  rw [State.readByte_jump, State.readByte_push16_rom _ _ (by simpa using h)]
  exact s.readByte_writeByte_rom addrIF _ h

theorem State.readByte_advanceTimer_low (s : State) (clk : Nat) {y : Word} (h : y.toNat < 0xFF04) :
    (s.advanceTimer clk).readByte y = s.readByte y :=
  s.readByte_advanceTimer_other clk (by rintro rfl; exact absurd h (by decide))
    (by rintro rfl; exact absurd h (by decide)) (by rintro rfl; exact absurd h (by decide))

theorem State.readByte_interruptCheck_rom (s : State) {y : Word} (h : y.toNat < s.cfg.romEnd)
    (h' : y.toNat < 0xFF04) : s.interruptCheck.readByte y = s.readByte y := by
  rcases s.interruptCheck_cases with e | ⟨-, -, -, e⟩ | ⟨-, -, -, e⟩ <;> rw [e]
  · rfl
  · unfold State.dispatchInterrupt
    rw [State.readByte_advanceTimer_low _ _ h']
    exact State.readByte_enterInterrupt_rom { s with halted := false } _ h

theorem State.interruptCheck_mem_wf (s : State) (h : s.mem.wf = true) : s.interruptCheck.mem.wf = true := by
  rcases s.interruptCheck_cases with e | ⟨-, -, -, e⟩ | ⟨-, -, -, e⟩ <;> rw [e]
  · exact h
  · exact h
  · exact State.advanceTimer_mem_wf _ _ (State.enterInterrupt_mem_wf { s with halted := false } _ h)

theorem State.interruptCheck_divAcc_lt (s : State) (h : s.divAcc < 256) : s.interruptCheck.divAcc < 256 := by
  rcases s.interruptCheck_cases with e | ⟨-, -, -, e⟩ | ⟨-, -, -, e⟩ <;> rw [e]
  · exact h
  · exact h
  · simp only [State.dispatchInterrupt, State.advanceTimer_divAcc]
    exact Nat.mod_lt _ (by decide)

theorem State.interruptCheck_timaAcc_lt (s : State) (h : s.timaAcc < 1024) :
    s.interruptCheck.timaAcc < 1024 := by
  rcases s.interruptCheck_cases with e | ⟨-, -, -, e⟩ | ⟨-, -, -, e⟩ <;> rw [e]
  · exact h
  · exact h
  · exact State.advanceTimer_timaAcc_lt _ _ (by simpa using h)

/-! ### The end of a step -/

theorem State.completeStep_fault (s : State) : s.completeStep.fault = s.fault := by
  simp [State.completeStep, State.interruptCheck_fault]

theorem State.completeStep_cfg (s : State) : s.completeStep.cfg = s.cfg := by
  simp [State.completeStep, State.interruptCheck_cfg]

theorem State.completeStep_stopped (s : State) : s.completeStep.stopped = s.stopped := by
  simp [State.completeStep, State.interruptCheck_stopped]

theorem State.completeStep_delta (s : State) : s.completeStep.delta = s.delta := by
  simp [State.completeStep, State.interruptCheck_delta]

theorem State.completeStep_halted (s : State) (h : s.halted = false) : s.completeStep.halted = false :=
  State.interruptCheck_halted _ (by simpa using h)

/-- `ime` after the end of a step: as before it, but cleared by an entry, after which PC is at a vector. -/
theorem State.completeStep_ime (s : State) :
    s.completeStep.ime = s.ime ∨
    (s.completeStep.ime = false ∧ s.ime = true ∧ s.cfg.dispatch = .standard ∧
      ∃ k : Nat, k < 5 ∧ s.completeStep.pc = interruptVector k) := by
  unfold State.completeStep
  rcases State.interruptCheck_cases
    (({ s with cycles := s.cycles + s.delta } : State).advanceTimer (4 * s.delta)) with
    e | ⟨-, -, -, e⟩ | ⟨hd, hi, -, e⟩ <;> rw [e]
  · exact .inl (by simp)
  · exact .inl (by simp)
  · exact .inr ⟨by simp [State.dispatchInterrupt], by simpa using hi, by simpa using hd, _,
      lowestSetBit_lt (State.pendingInterrupts
        (({ s with cycles := s.cycles + s.delta } : State).advanceTimer (4 * s.delta))),
      by simp [State.dispatchInterrupt]⟩

/-- `cycles` after the end of a step: `delta` more, and 5 more again if an interrupt was entered. -/
theorem State.completeStep_cycles (s : State) :
    s.completeStep.cycles = s.cycles + s.delta ∨
    (s.completeStep.cycles = s.cycles + s.delta + 5 ∧ s.completeStep.ime = false ∧
      s.cfg.dispatch = .standard) := by
  unfold State.completeStep
  rcases State.interruptCheck_cases
    (({ s with cycles := s.cycles + s.delta } : State).advanceTimer (4 * s.delta)) with
    e | ⟨-, -, -, e⟩ | ⟨hd, hi, -, e⟩ <;> rw [e]
  · exact .inl (by simp)
  · exact .inl (by simp)
  · exact .inr ⟨by simp [State.dispatchInterrupt, entryCycles], by simp [State.dispatchInterrupt],
      by simpa using hd⟩

/-- The end of a step keeps the invariant. -/
theorem State.completeStep_wf (s : State) (h : s.wf = true) : s.completeStep.wf = true := by
  simp only [State.wf, Bool.and_eq_true, decide_eq_true_eq] at h ⊢
  obtain ⟨⟨⟨h1, h2⟩, h3⟩, h4⟩ := h
  refine ⟨⟨⟨?_, ?_⟩, ?_⟩, ?_⟩
  · exact State.interruptCheck_mem_wf _ (State.advanceTimer_mem_wf _ _ h1)
  · simp only [State.completeStep, State.interruptCheck_f, State.advanceTimer_f]
    exact h2
  · refine State.interruptCheck_divAcc_lt _ ?_
    rw [State.advanceTimer_divAcc]
    exact Nat.mod_lt _ (by decide)
  · exact State.interruptCheck_timaAcc_lt _ (State.advanceTimer_timaAcc_lt _ _ h4)

theorem State.readByte_completeStep_rom (s : State) {y : Word} (h : y.toNat < s.cfg.romEnd)
    (h' : y.toNat < 0xFF04) : s.completeStep.readByte y = s.readByte y := by
  unfold State.completeStep
  rw [State.readByte_interruptCheck_rom _ (by simpa using h) h', State.readByte_advanceTimer_low _ _ h']
  rfl

/-! ### The EI delay -/

theorem State.readByte_eiDelay (s : State) (i : Instr) (p : Bool) (y : Word) :
    (s.eiDelay i p).readByte y = s.readByte y := State.readByte_congr (by simp) y

theorem State.eiDelay_wf (s : State) (i : Instr) (p : Bool) (h : s.wf = true) : (s.eiDelay i p).wf = true := by
  simpa [State.wf] using h

/-- `ime` after the EI delay (R366). -/
theorem State.eiDelay_ime (s : State) (i : Instr) (p : Bool) :
    (s.eiDelay i p).ime = if p = true ∧ ¬ (s.cfg.diCancelsEi = true ∧ isDI i = true) then true else s.ime := by
  unfold State.eiDelay
  cases p <;> cases s.cfg.diCancelsEi <;> cases isDI i <;> cases isEI i <;> rfl

/-- `ime_pending` after the EI delay (R366). -/
theorem State.eiDelay_imePending (s : State) (i : Instr) (p : Bool) :
    (s.eiDelay i p).imePending = if isEI i = true then s.imePending else false := by
  unfold State.eiDelay
  cases p <;> cases s.cfg.diCancelsEi <;> cases isDI i <;> cases isEI i <;> rfl

theorem isDI_eq (i : Instr) : isDI i = true ↔ i = .di := by
  constructor
  · intro h
    cases i <;> first | rfl | cases h
  · rintro rfl; rfl

theorem isEI_eq (i : Instr) : isEI i = true ↔ i = .ei := by
  constructor
  · intro h
    cases i <;> first | rfl | cases h
  · rintro rfl; rfl

/-- Everything the EI delay does (R366). -/
theorem State.eiDelay_eq (s : State) (i : Instr) (p : Bool) :
    s.eiDelay i p = { s with
      ime := if p = true ∧ ¬ (s.cfg.diCancelsEi = true ∧ i = .di) then true else s.ime
      imePending := if i = .ei then s.imePending else false } := by
  simp only [← isDI_eq, ← isEI_eq]
  unfold State.eiDelay
  cases p <;> cases s.cfg.diCancelsEi <;> cases isDI i <;> cases isEI i <;> rfl

/-- A step that recorded a fault adds nothing (R500). -/
theorem State.afterExec_fault {s : State} (i : Instr) (p : Bool) (h : s.fault ≠ none) : s.afterExec i p = s := by
  unfold State.afterExec
  cases e : s.fault with
  | none => exact absurd e h
  | some r => rfl

/-- A step that recorded none adds the EI delay and the rest (R360). -/
theorem State.afterExec_ok {s : State} (i : Instr) (p : Bool) (h : s.fault = none) :
    s.afterExec i p = (s.eiDelay i p).completeStep := by
  unfold State.afterExec
  rw [h]

end Sys2Proof.Machine
end

