-- ==== Sys2Proof/Tests/Slice0.lean ====
section
/-! SUPPORT. The model's own tests: decoding, one step per vector of the spec, well-formedness, and a witness for every statement with hypotheses. -/

namespace Sys2Proof.Tests

open Sys2Proof Sys2Proof.Machine

/-- A launch image of the vectors' conventions: 0x00 but for the bytes given. -/
def image (cells : List (Nat × Byte)) : Memory := cells.foldl (fun m c => m.put c.1 c.2) []

/-- The reset state with `code` at `pc` and `data` elsewhere. -/
def boot (pc : Word) (code : List Byte) (data : List (Nat × Byte)) : State :=
  { State.launch Config.standard
      (image ((code.zipIdx.map fun (v, k) => (pc.toNat + k, v)) ++ data)) with pc := pc }

/-- One step from `start` ends in `fin`. The vectors give no accumulators and no `delta`: those are left out. -/
def leads (start fin : State) : Bool :=
  match step start with
  | .next t => decide ({ t with delta := 0, divAcc := 0, timaAcc := 0 } = fin)
  | _ => false

/-! ### One step each: the derived vectors of 95_test_vectors.md, section 2 (those of one step). Start states,
end states, flags and cycle counts are the file's. -/

theorem test_8_bit_alu_inc_and_dec_vectors_1 : [
    leads ({ boot 0x0100 [0x80] [] with a := 0x3C, b := 0xFF, f := 0x00 })
      ({ boot 0x0100 [0x80] [] with a := 0x3B, b := 0xFF, f := 0x30, pc := 0x0101, cycles := 1 }),
    leads ({ boot 0x0100 [0x80] [] with a := 0x00, b := 0x00, f := 0xF0 })
      ({ boot 0x0100 [0x80] [] with a := 0x00, b := 0x00, f := 0x80, pc := 0x0101, cycles := 1 }),
    leads ({ boot 0x0100 [0x80] [] with a := 0x80, b := 0x80, f := 0x00 })
      ({ boot 0x0100 [0x80] [] with a := 0x00, b := 0x80, f := 0x90, pc := 0x0101, cycles := 1 }),
    leads ({ boot 0x0100 [0x80] [] with a := 0x0F, b := 0x01, f := 0x00 })
      ({ boot 0x0100 [0x80] [] with a := 0x10, b := 0x01, f := 0x20, pc := 0x0101, cycles := 1 }),
    leads ({ boot 0x0100 [0x86] [(0xC000, 0xFF)] with a := 0x01, f := 0x00, h := 0xC0, l := 0x00 })
      ({ boot 0x0100 [0x86] [(0xC000, 0xFF)] with a := 0x00, f := 0xB0, h := 0xC0, l := 0x00, pc := 0x0101, cycles := 2 }),
    leads ({ boot 0x0100 [0xC6, 0x01] [] with a := 0xFF, f := 0x00 })
      ({ boot 0x0100 [0xC6, 0x01] [] with a := 0x00, f := 0xB0, pc := 0x0102, cycles := 2 }),
    leads ({ boot 0x0100 [0x88] [] with a := 0xFF, b := 0x00, f := 0x10 })
      ({ boot 0x0100 [0x88] [] with a := 0x00, b := 0x00, f := 0xB0, pc := 0x0101, cycles := 1 }),
    leads ({ boot 0x0100 [0x88] [] with a := 0x0E, b := 0x01, f := 0x10 })
      ({ boot 0x0100 [0x88] [] with a := 0x10, b := 0x01, f := 0x20, pc := 0x0101, cycles := 1 })].all id = true := by decide

theorem test_8_bit_alu_inc_and_dec_vectors_2 : [
    leads ({ boot 0x0100 [0xCE, 0xFF] [] with a := 0x00, f := 0x10 })
      ({ boot 0x0100 [0xCE, 0xFF] [] with a := 0x00, f := 0xB0, pc := 0x0102, cycles := 2 }),
    leads ({ boot 0x0100 [0x90] [] with a := 0x00, b := 0x01, f := 0x00 })
      ({ boot 0x0100 [0x90] [] with a := 0xFF, b := 0x01, f := 0x70, pc := 0x0101, cycles := 1 }),
    leads ({ boot 0x0100 [0x90] [] with a := 0x10, b := 0x01, f := 0x00 })
      ({ boot 0x0100 [0x90] [] with a := 0x0F, b := 0x01, f := 0x60, pc := 0x0101, cycles := 1 }),
    leads ({ boot 0x0100 [0x97] [] with a := 0x5A, f := 0x00 })
      ({ boot 0x0100 [0x97] [] with a := 0x00, f := 0xC0, pc := 0x0101, cycles := 1 }),
    leads ({ boot 0x0100 [0x98] [] with a := 0x00, b := 0xFF, f := 0x10 })
      ({ boot 0x0100 [0x98] [] with a := 0x00, b := 0xFF, f := 0xF0, pc := 0x0101, cycles := 1 }),
    leads ({ boot 0x0100 [0x98] [] with a := 0x10, b := 0x0F, f := 0x10 })
      ({ boot 0x0100 [0x98] [] with a := 0x00, b := 0x0F, f := 0xE0, pc := 0x0101, cycles := 1 }),
    leads ({ boot 0x0100 [0xDE, 0x00] [] with a := 0x00, f := 0x10 })
      ({ boot 0x0100 [0xDE, 0x00] [] with a := 0xFF, f := 0x70, pc := 0x0102, cycles := 2 }),
    leads ({ boot 0x0100 [0xA0] [] with a := 0xF0, b := 0x0F, f := 0x10 })
      ({ boot 0x0100 [0xA0] [] with a := 0x00, b := 0x0F, f := 0xA0, pc := 0x0101, cycles := 1 })].all id = true := by decide

theorem test_8_bit_alu_inc_and_dec_vectors_3 : [
    leads ({ boot 0x0100 [0xAF] [] with a := 0x77, f := 0x70 })
      ({ boot 0x0100 [0xAF] [] with a := 0x00, f := 0x80, pc := 0x0101, cycles := 1 }),
    leads ({ boot 0x0100 [0xB6] [(0xC000, 0x00)] with a := 0x00, f := 0xF0, h := 0xC0, l := 0x00 })
      ({ boot 0x0100 [0xB6] [(0xC000, 0x00)] with a := 0x00, f := 0x80, h := 0xC0, l := 0x00, pc := 0x0101, cycles := 2 }),
    leads ({ boot 0x0100 [0xFE, 0x3C] [] with a := 0x3C, f := 0x00 })
      ({ boot 0x0100 [0xFE, 0x3C] [] with a := 0x3C, f := 0xC0, pc := 0x0102, cycles := 2 }),
    leads ({ boot 0x0100 [0xFE, 0x40] [] with a := 0x3C, f := 0x00 })
      ({ boot 0x0100 [0xFE, 0x40] [] with a := 0x3C, f := 0x50, pc := 0x0102, cycles := 2 }),
    leads ({ boot 0x0100 [0x3C] [] with a := 0xFF, f := 0x50 })
      ({ boot 0x0100 [0x3C] [] with a := 0x00, f := 0xB0, pc := 0x0101, cycles := 1 }),
    leads ({ boot 0x0100 [0x2C] [] with l := 0x0F, f := 0x00 })
      ({ boot 0x0100 [0x2C] [] with l := 0x10, f := 0x20, pc := 0x0101, cycles := 1 }),
    leads ({ boot 0x0100 [0x34] [(0xC000, 0x7F)] with f := 0x10, h := 0xC0, l := 0x00 })
      ({ boot 0x0100 [0x34] [(0xC000, 0x80)] with f := 0x30, h := 0xC0, l := 0x00, pc := 0x0101, cycles := 3 }),
    leads ({ boot 0x0100 [0x05] [] with b := 0x00, f := 0x00 })
      ({ boot 0x0100 [0x05] [] with b := 0xFF, f := 0x60, pc := 0x0101, cycles := 1 })].all id = true := by decide

theorem test_8_bit_alu_inc_and_dec_vectors_4 : [
    leads ({ boot 0x0100 [0x05] [] with b := 0x01, f := 0x10 })
      ({ boot 0x0100 [0x05] [] with b := 0x00, f := 0xD0, pc := 0x0101, cycles := 1 }),
    leads ({ boot 0x0100 [0x35] [(0xC000, 0x10)] with f := 0x00, h := 0xC0, l := 0x00 })
      ({ boot 0x0100 [0x35] [(0xC000, 0x0F)] with f := 0x60, h := 0xC0, l := 0x00, pc := 0x0101, cycles := 3 }),
    leads ({ boot 0x0100 [0x34] [] with h := 0x01, l := 0x00, f := 0x00 })
      ({ boot 0x0100 [0x34] [] with h := 0x01, l := 0x00, f := 0x00, pc := 0x0101, cycles := 3 })].all id = true := by decide

theorem test_daa_cpl_ccf_scf_vectors_1 : [
    leads ({ boot 0x0100 [0x27] [] with a := 0x9A, f := 0x00 })
      ({ boot 0x0100 [0x27] [] with a := 0x00, f := 0x90, pc := 0x0101, cycles := 1 }),
    leads ({ boot 0x0100 [0x27] [] with a := 0x45, f := 0x00 })
      ({ boot 0x0100 [0x27] [] with a := 0x45, f := 0x00, pc := 0x0101, cycles := 1 }),
    leads ({ boot 0x0100 [0x27] [] with a := 0x3C, f := 0x00 })
      ({ boot 0x0100 [0x27] [] with a := 0x42, f := 0x00, pc := 0x0101, cycles := 1 }),
    leads ({ boot 0x0100 [0x27] [] with a := 0x12, f := 0x20 })
      ({ boot 0x0100 [0x27] [] with a := 0x18, f := 0x00, pc := 0x0101, cycles := 1 }),
    leads ({ boot 0x0100 [0x27] [] with a := 0x9A, f := 0x00 })
      ({ boot 0x0100 [0x27] [] with a := 0x00, f := 0x90, pc := 0x0101, cycles := 1 }),
    leads ({ boot 0x0100 [0x27] [] with a := 0x20, f := 0x10 })
      ({ boot 0x0100 [0x27] [] with a := 0x80, f := 0x10, pc := 0x0101, cycles := 1 }),
    leads ({ boot 0x0100 [0x27] [] with a := 0x0F, f := 0x60 })
      ({ boot 0x0100 [0x27] [] with a := 0x09, f := 0x40, pc := 0x0101, cycles := 1 }),
    leads ({ boot 0x0100 [0x27] [] with a := 0xFF, f := 0x70 })
      ({ boot 0x0100 [0x27] [] with a := 0x99, f := 0x50, pc := 0x0101, cycles := 1 })].all id = true := by decide

theorem test_daa_cpl_ccf_scf_vectors_2 : [
    leads ({ boot 0x0100 [0x27] [] with a := 0x00, f := 0x40 })
      ({ boot 0x0100 [0x27] [] with a := 0x00, f := 0xC0, pc := 0x0101, cycles := 1 }),
    leads ({ boot 0x0100 [0x2F] [] with a := 0x00, f := 0x90 })
      ({ boot 0x0100 [0x2F] [] with a := 0xFF, f := 0xF0, pc := 0x0101, cycles := 1 }),
    leads ({ boot 0x0100 [0x3F] [] with f := 0x60 })
      ({ boot 0x0100 [0x3F] [] with f := 0x10, pc := 0x0101, cycles := 1 }),
    leads ({ boot 0x0100 [0x37] [] with f := 0x70 })
      ({ boot 0x0100 [0x37] [] with f := 0x10, pc := 0x0101, cycles := 1 })].all id = true := by decide

theorem test_16_bit_arithmetic_vectors_1 : [
    leads ({ boot 0x0100 [0x09] [] with h := 0x0F, l := 0xFF, b := 0x00, c := 0x01, f := 0x80 })
      ({ boot 0x0100 [0x09] [] with h := 0x10, l := 0x00, b := 0x00, c := 0x01, f := 0xA0, pc := 0x0101, cycles := 2 }),
    leads ({ boot 0x0100 [0x19] [] with h := 0xFF, l := 0xFF, d := 0x00, e := 0x01, f := 0x00 })
      ({ boot 0x0100 [0x19] [] with h := 0x00, l := 0x00, d := 0x00, e := 0x01, f := 0x30, pc := 0x0101, cycles := 2 }),
    leads ({ boot 0x0100 [0x29] [] with h := 0x80, l := 0x00, f := 0x00 })
      ({ boot 0x0100 [0x29] [] with h := 0x00, l := 0x00, f := 0x10, pc := 0x0101, cycles := 2 }),
    leads ({ boot 0x0100 [0x39] [] with h := 0x00, l := 0x01, sp := 0xFFFE, f := 0x40 })
      ({ boot 0x0100 [0x39] [] with h := 0xFF, l := 0xFF, sp := 0xFFFE, f := 0x00, pc := 0x0101, cycles := 2 }),
    leads ({ boot 0x0100 [0x03] [] with b := 0xFF, c := 0xFF, f := 0x00 })
      ({ boot 0x0100 [0x03] [] with b := 0x00, c := 0x00, f := 0x00, pc := 0x0101, cycles := 2 }),
    leads ({ boot 0x0100 [0x33] [] with sp := 0xFFFF, f := 0xF0 })
      ({ boot 0x0100 [0x33] [] with sp := 0x0000, f := 0xF0, pc := 0x0101, cycles := 2 }),
    leads ({ boot 0x0100 [0x1B] [] with d := 0x00, e := 0x00, f := 0x00 })
      ({ boot 0x0100 [0x1B] [] with d := 0xFF, e := 0xFF, f := 0x00, pc := 0x0101, cycles := 2 }),
    leads ({ boot 0x0100 [0x2B] [] with h := 0x01, l := 0x00, f := 0x00 })
      ({ boot 0x0100 [0x2B] [] with h := 0x00, l := 0xFF, f := 0x00, pc := 0x0101, cycles := 2 })].all id = true := by decide

theorem test_16_bit_arithmetic_vectors_2 : [
    leads ({ boot 0x0100 [0xE8, 0xFF] [] with sp := 0x0001, f := 0xF0 })
      ({ boot 0x0100 [0xE8, 0xFF] [] with sp := 0x0000, f := 0x30, pc := 0x0102, cycles := 4 }),
    leads ({ boot 0x0100 [0xE8, 0xFF] [] with sp := 0x0000, f := 0x00 })
      ({ boot 0x0100 [0xE8, 0xFF] [] with sp := 0xFFFF, f := 0x00, pc := 0x0102, cycles := 4 }),
    leads ({ boot 0x0100 [0xE8, 0x08] [] with sp := 0x00F8, f := 0x00 })
      ({ boot 0x0100 [0xE8, 0x08] [] with sp := 0x0100, f := 0x30, pc := 0x0102, cycles := 4 }),
    leads ({ boot 0x0100 [0xE8, 0x80] [] with sp := 0xD000, f := 0x00 })
      ({ boot 0x0100 [0xE8, 0x80] [] with sp := 0xCF80, f := 0x00, pc := 0x0102, cycles := 4 }),
    leads ({ boot 0x0100 [0xF8, 0x01] [] with sp := 0xFFFF, f := 0x00 })
      ({ boot 0x0100 [0xF8, 0x01] [] with sp := 0xFFFF, f := 0x30, h := 0x00, l := 0x00, pc := 0x0102, cycles := 3 }),
    leads ({ boot 0x0100 [0xF8, 0xFE] [] with sp := 0xFFFE, f := 0x00 })
      ({ boot 0x0100 [0xF8, 0xFE] [] with sp := 0xFFFE, f := 0x30, h := 0xFF, l := 0xFC, pc := 0x0102, cycles := 3 }),
    leads ({ boot 0x0100 [0xF8, 0x00] [] with sp := 0xFFFE, f := 0xF0 })
      ({ boot 0x0100 [0xF8, 0x00] [] with sp := 0xFFFE, f := 0x00, h := 0xFF, l := 0xFE, pc := 0x0102, cycles := 3 })].all id = true := by decide

theorem test_rotates_shifts_bit_operations_vectors_1 : [
    leads ({ boot 0x0100 [0x07] [] with a := 0x80, f := 0x80 })
      ({ boot 0x0100 [0x07] [] with a := 0x01, f := 0x10, pc := 0x0101, cycles := 1 }),
    leads ({ boot 0x0100 [0x07] [] with a := 0x00, f := 0x00 })
      ({ boot 0x0100 [0x07] [] with a := 0x00, f := 0x00, pc := 0x0101, cycles := 1 }),
    leads ({ boot 0x0100 [0x0F] [] with a := 0x01, f := 0x00 })
      ({ boot 0x0100 [0x0F] [] with a := 0x80, f := 0x10, pc := 0x0101, cycles := 1 }),
    leads ({ boot 0x0100 [0x17] [] with a := 0x80, f := 0x00 })
      ({ boot 0x0100 [0x17] [] with a := 0x00, f := 0x10, pc := 0x0101, cycles := 1 }),
    leads ({ boot 0x0100 [0x1F] [] with a := 0x00, f := 0x10 })
      ({ boot 0x0100 [0x1F] [] with a := 0x80, f := 0x00, pc := 0x0101, cycles := 1 }),
    leads ({ boot 0x0100 [0x1F] [] with a := 0x01, f := 0x00 })
      ({ boot 0x0100 [0x1F] [] with a := 0x00, f := 0x10, pc := 0x0101, cycles := 1 }),
    leads ({ boot 0x0100 [0xCB, 0x06] [(0xC000, 0x00)] with f := 0x00, h := 0xC0, l := 0x00 })
      ({ boot 0x0100 [0xCB, 0x06] [(0xC000, 0x00)] with f := 0x80, h := 0xC0, l := 0x00, pc := 0x0102, cycles := 4 }),
    leads ({ boot 0x0100 [0xCB, 0x0F] [] with a := 0x81, f := 0x00 })
      ({ boot 0x0100 [0xCB, 0x0F] [] with a := 0xC0, f := 0x10, pc := 0x0102, cycles := 2 })].all id = true := by decide

theorem test_rotates_shifts_bit_operations_vectors_2 : [
    leads ({ boot 0x0100 [0xCB, 0x10] [] with b := 0x7F, f := 0x10 })
      ({ boot 0x0100 [0xCB, 0x10] [] with b := 0xFF, f := 0x00, pc := 0x0102, cycles := 2 }),
    leads ({ boot 0x0100 [0xCB, 0x1E] [(0xC000, 0x01)] with f := 0x10, h := 0xC0, l := 0x00 })
      ({ boot 0x0100 [0xCB, 0x1E] [(0xC000, 0x80)] with f := 0x10, h := 0xC0, l := 0x00, pc := 0x0102, cycles := 4 }),
    leads ({ boot 0x0100 [0xCB, 0x27] [] with a := 0xFF, f := 0x00 })
      ({ boot 0x0100 [0xCB, 0x27] [] with a := 0xFE, f := 0x10, pc := 0x0102, cycles := 2 }),
    leads ({ boot 0x0100 [0xCB, 0x28] [] with b := 0x01, f := 0x00 })
      ({ boot 0x0100 [0xCB, 0x28] [] with b := 0x00, f := 0x90, pc := 0x0102, cycles := 2 }),
    leads ({ boot 0x0100 [0xCB, 0x2E] [(0xC000, 0x80)] with f := 0x00, h := 0xC0, l := 0x00 })
      ({ boot 0x0100 [0xCB, 0x2E] [(0xC000, 0xC0)] with f := 0x00, h := 0xC0, l := 0x00, pc := 0x0102, cycles := 4 }),
    leads ({ boot 0x0100 [0xCB, 0x30] [] with b := 0x00, f := 0x70 })
      ({ boot 0x0100 [0xCB, 0x30] [] with b := 0x00, f := 0x80, pc := 0x0102, cycles := 2 }),
    leads ({ boot 0x0100 [0xCB, 0x36] [(0xC000, 0x12)] with f := 0x00, h := 0xC0, l := 0x00 })
      ({ boot 0x0100 [0xCB, 0x36] [(0xC000, 0x21)] with f := 0x00, h := 0xC0, l := 0x00, pc := 0x0102, cycles := 4 }),
    leads ({ boot 0x0100 [0xCB, 0x38] [] with b := 0x80, f := 0x10 })
      ({ boot 0x0100 [0xCB, 0x38] [] with b := 0x40, f := 0x00, pc := 0x0102, cycles := 2 })].all id = true := by decide

theorem test_rotates_shifts_bit_operations_vectors_3 : [
    leads ({ boot 0x0100 [0xCB, 0x47] [] with a := 0x01, f := 0x10 })
      ({ boot 0x0100 [0xCB, 0x47] [] with a := 0x01, f := 0x30, pc := 0x0102, cycles := 2 }),
    leads ({ boot 0x0100 [0xCB, 0x5E] [(0xC000, 0xF7)] with f := 0x50, h := 0xC0, l := 0x00 })
      ({ boot 0x0100 [0xCB, 0x5E] [(0xC000, 0xF7)] with f := 0xB0, h := 0xC0, l := 0x00, pc := 0x0102, cycles := 3 }),
    leads ({ boot 0x0100 [0xCB, 0x86] [(0xC000, 0xFF)] with f := 0xF0, h := 0xC0, l := 0x00 })
      ({ boot 0x0100 [0xCB, 0x86] [(0xC000, 0xFE)] with f := 0xF0, h := 0xC0, l := 0x00, pc := 0x0102, cycles := 4 }),
    leads ({ boot 0x0100 [0xCB, 0xF8] [] with b := 0x00, f := 0x00 })
      ({ boot 0x0100 [0xCB, 0xF8] [] with b := 0x80, f := 0x00, pc := 0x0102, cycles := 2 }),
    leads ({ boot 0x0100 [0xCB, 0xF6] [] with h := 0x00, l := 0x10, f := 0x00 })
      ({ boot 0x0100 [0xCB, 0xF6] [] with h := 0x00, l := 0x10, f := 0x00, pc := 0x0102, cycles := 4 })].all id = true := by decide

theorem test_control_transfer_vectors_1 : [
    leads ({ boot 0x0100 [0xC3, 0x00, 0x02] [] with f := 0x00 })
      ({ boot 0x0100 [0xC3, 0x00, 0x02] [] with f := 0x00, pc := 0x0200, cycles := 4 }),
    leads ({ boot 0x0100 [0xC2, 0x00, 0x02] [] with f := 0x00 })
      ({ boot 0x0100 [0xC2, 0x00, 0x02] [] with f := 0x00, pc := 0x0200, cycles := 4 }),
    leads ({ boot 0x0100 [0xC2, 0x00, 0x02] [] with f := 0x80 })
      ({ boot 0x0100 [0xC2, 0x00, 0x02] [] with f := 0x80, pc := 0x0103, cycles := 3 }),
    leads ({ boot 0x0100 [0xDA, 0x34, 0x12] [] with f := 0x10 })
      ({ boot 0x0100 [0xDA, 0x34, 0x12] [] with f := 0x10, pc := 0x1234, cycles := 4 }),
    leads ({ boot 0x0100 [0xD2, 0x34, 0x12] [] with f := 0x10 })
      ({ boot 0x0100 [0xD2, 0x34, 0x12] [] with f := 0x10, pc := 0x0103, cycles := 3 }),
    leads ({ boot 0x0100 [0xE9] [] with h := 0xC1, l := 0x23 })
      ({ boot 0x0100 [0xE9] [] with h := 0xC1, l := 0x23, pc := 0xC123, f := 0xB0, cycles := 1 }),
    leads (boot 0x0100 [0x18, 0xFE] [])
      ({ boot 0x0100 [0x18, 0xFE] [] with pc := 0x0100, f := 0xB0, cycles := 3 }),
    leads (boot 0xFFF0 [0x18, 0x10] [])
      ({ boot 0xFFF0 [0x18, 0x10] [] with pc := 0x0002, f := 0xB0, cycles := 3 })].all id = true := by decide

theorem test_control_transfer_vectors_2 : [
    leads ({ boot 0x0100 [0x28, 0x10] [] with f := 0x00 })
      ({ boot 0x0100 [0x28, 0x10] [] with f := 0x00, pc := 0x0102, cycles := 2 }),
    leads ({ boot 0x0100 [0x38, 0x80] [] with f := 0x10 })
      ({ boot 0x0100 [0x38, 0x80] [] with f := 0x10, pc := 0x0082, cycles := 3 }),
    leads ({ boot 0x0100 [0xCD, 0x34, 0x12] [] with sp := 0xFFFE })
      ({ boot 0x0100 [0xCD, 0x34, 0x12] [(0xFFFC, 0x03), (0xFFFD, 0x01)] with sp := 0xFFFC, pc := 0x1234, f := 0xB0, cycles := 6 }),
    leads ({ boot 0x0100 [0xCC, 0x34, 0x12] [] with f := 0x00 })
      ({ boot 0x0100 [0xCC, 0x34, 0x12] [] with f := 0x00, pc := 0x0103, cycles := 3 }),
    leads ({ boot 0x0100 [0xD4, 0x00, 0x30] [] with f := 0x00, sp := 0xD000 })
      ({ boot 0x0100 [0xD4, 0x00, 0x30] [(0xCFFE, 0x03), (0xCFFF, 0x01)] with f := 0x00, sp := 0xCFFE, pc := 0x3000, cycles := 6 }),
    leads ({ boot 0x0100 [0xC9] [(0xFFFC, 0x03), (0xFFFD, 0x01)] with sp := 0xFFFC })
      ({ boot 0x0100 [0xC9] [(0xFFFC, 0x03), (0xFFFD, 0x01)] with sp := 0xFFFE, pc := 0x0103, f := 0xB0, cycles := 4 }),
    leads ({ boot 0x0100 [0xC0] [(0xFFFC, 0x50), (0xFFFD, 0x01)] with f := 0x00, sp := 0xFFFC })
      ({ boot 0x0100 [0xC0] [(0xFFFC, 0x50), (0xFFFD, 0x01)] with f := 0x00, sp := 0xFFFE, pc := 0x0150, cycles := 5 }),
    leads ({ boot 0x0100 [0xC8] [(0xFFFC, 0x50), (0xFFFD, 0x01)] with f := 0x00, sp := 0xFFFC })
      ({ boot 0x0100 [0xC8] [(0xFFFC, 0x50), (0xFFFD, 0x01)] with f := 0x00, sp := 0xFFFC, pc := 0x0101, cycles := 2 })].all id = true := by decide

theorem test_control_transfer_vectors_3 : [
    leads ({ boot 0x0100 [0xD9] [(0xFFFC, 0x50), (0xFFFD, 0x01)] with sp := 0xFFFC })
      ({ boot 0x0100 [0xD9] [(0xFFFC, 0x50), (0xFFFD, 0x01)] with sp := 0xFFFE, pc := 0x0150, ime := true, f := 0xB0, cycles := 4 }),
    leads (boot 0x0234 [0xEF] [])
      ({ boot 0x0234 [0xEF] [(0xFFFC, 0x35), (0xFFFD, 0x02)] with pc := 0x0028, sp := 0xFFFC, f := 0xB0, cycles := 4 }),
    leads ({ boot 0x0100 [0xC7] [] with sp := 0x0001 })
      ({ boot 0x0100 [0xC7] [(0xFFFF, 0x01)] with sp := 0xFFFF, pc := 0x0000, f := 0xB0, cycles := 4 }),
    leads ({ boot 0x0100 [0xC9] [(0xFFFF, 0x34)] with sp := 0xFFFF })
      ({ boot 0x0100 [0xC9] [(0xFFFF, 0x34)] with sp := 0x0001, pc := 0x0034, f := 0xB0, cycles := 4 })].all id = true := by decide

theorem test_loads_stores_stack_vectors_1 : [
    leads ({ boot 0x0100 [0x41] [] with c := 0x42 })
      ({ boot 0x0100 [0x41] [] with c := 0x42, b := 0x42, pc := 0x0101, f := 0xB0, cycles := 1 }),
    leads ({ boot 0x0100 [0x7F] [] with a := 0x12 })
      ({ boot 0x0100 [0x7F] [] with a := 0x12, pc := 0x0101, f := 0xB0, cycles := 1 }),
    leads (boot 0x0100 [0x1E, 0x99] [])
      ({ boot 0x0100 [0x1E, 0x99] [] with e := 0x99, pc := 0x0102, f := 0xB0, cycles := 2 }),
    leads ({ boot 0x0100 [0x66] [(0xC000, 0x55)] with h := 0xC0, l := 0x00 })
      ({ boot 0x0100 [0x66] [(0xC000, 0x55)] with h := 0x55, l := 0x00, pc := 0x0101, f := 0xB0, cycles := 2 }),
    leads ({ boot 0x0100 [0x75] [] with h := 0xC0, l := 0x33 })
      ({ boot 0x0100 [0x75] [(0xC033, 0x33)] with h := 0xC0, l := 0x33, pc := 0x0101, f := 0xB0, cycles := 2 }),
    leads ({ boot 0x0100 [0x36, 0xA5] [] with h := 0xC0, l := 0x00 })
      ({ boot 0x0100 [0x36, 0xA5] [(0xC000, 0xA5)] with h := 0xC0, l := 0x00, pc := 0x0102, f := 0xB0, cycles := 3 }),
    leads ({ boot 0x0100 [0x36, 0xA5] [] with h := 0x00, l := 0x00 })
      ({ boot 0x0100 [0x36, 0xA5] [] with h := 0x00, l := 0x00, pc := 0x0102, f := 0xB0, cycles := 3 }),
    leads ({ boot 0x0100 [0x0A] [(0xC010, 0x11)] with b := 0xC0, c := 0x10 })
      ({ boot 0x0100 [0x0A] [(0xC010, 0x11)] with b := 0xC0, c := 0x10, a := 0x11, pc := 0x0101, f := 0xB0, cycles := 2 })].all id = true := by decide

theorem test_loads_stores_stack_vectors_2 : [
    leads ({ boot 0x0100 [0x1A] [(0xC020, 0x22)] with d := 0xC0, e := 0x20 })
      ({ boot 0x0100 [0x1A] [(0xC020, 0x22)] with d := 0xC0, e := 0x20, a := 0x22, pc := 0x0101, f := 0xB0, cycles := 2 }),
    leads ({ boot 0x0100 [0x02] [] with a := 0x33, b := 0xC0, c := 0x30 })
      ({ boot 0x0100 [0x02] [(0xC030, 0x33)] with a := 0x33, b := 0xC0, c := 0x30, pc := 0x0101, f := 0xB0, cycles := 2 }),
    leads ({ boot 0x0100 [0x12] [] with a := 0x44, d := 0xC0, e := 0x40 })
      ({ boot 0x0100 [0x12] [(0xC040, 0x44)] with a := 0x44, d := 0xC0, e := 0x40, pc := 0x0101, f := 0xB0, cycles := 2 }),
    leads (boot 0x0100 [0xFA, 0x00, 0xC1] [(0xC100, 0x5E)])
      ({ boot 0x0100 [0xFA, 0x00, 0xC1] [(0xC100, 0x5E)] with a := 0x5E, pc := 0x0103, f := 0xB0, cycles := 4 }),
    leads ({ boot 0x0100 [0xEA, 0x00, 0xC1] [] with a := 0x77 })
      ({ boot 0x0100 [0xEA, 0x00, 0xC1] [(0xC100, 0x77)] with a := 0x77, pc := 0x0103, f := 0xB0, cycles := 4 }),
    leads ({ boot 0x0100 [0x2A] [(0xFFFF, 0x0A)] with h := 0xFF, l := 0xFF })
      ({ boot 0x0100 [0x2A] [(0xFFFF, 0x0A)] with h := 0x00, l := 0x00, a := 0x0A, pc := 0x0101, f := 0xB0, cycles := 2 }),
    leads ({ boot 0x0100 [0x3A] [] with h := 0x00, l := 0x00 })
      ({ boot 0x0100 [0x3A] [] with h := 0xFF, l := 0xFF, a := 0x00, pc := 0x0101, f := 0xB0, cycles := 2 }),
    leads ({ boot 0x0100 [0x22] [] with a := 0xAA, h := 0xC0, l := 0x00 })
      ({ boot 0x0100 [0x22] [(0xC000, 0xAA)] with a := 0xAA, h := 0xC0, l := 0x01, pc := 0x0101, f := 0xB0, cycles := 2 })].all id = true := by decide

theorem test_loads_stores_stack_vectors_3 : [
    leads ({ boot 0x0100 [0x32] [] with a := 0xAA, h := 0x40, l := 0x00 })
      ({ boot 0x0100 [0x32] [] with a := 0xAA, h := 0x3F, l := 0xFF, pc := 0x0101, f := 0xB0, cycles := 2 }),
    leads ({ boot 0x0100 [0xE0, 0x80] [] with a := 0x5C })
      ({ boot 0x0100 [0xE0, 0x80] [(0xFF80, 0x5C)] with a := 0x5C, pc := 0x0102, f := 0xB0, cycles := 3 }),
    leads ({ boot 0x0100 [0xE0, 0x04] [(0xFF04, 0x37)] with a := 0x5C })
      ({ boot 0x0100 [0xE0, 0x04] [(0xFF04, 0x00)] with a := 0x5C, pc := 0x0102, f := 0xB0, cycles := 3 }),
    leads (boot 0x0100 [0xF0, 0x05] [(0xFF05, 0x12)])
      ({ boot 0x0100 [0xF0, 0x05] [(0xFF05, 0x12)] with a := 0x12, pc := 0x0102, f := 0xB0, cycles := 3 }),
    leads ({ boot 0x0100 [0xE2] [] with a := 0xF0, c := 0x06 })
      ({ boot 0x0100 [0xE2] [(0xFF06, 0xF0)] with a := 0xF0, c := 0x06, pc := 0x0101, f := 0xB0, cycles := 2 }),
    leads ({ boot 0x0100 [0xF2] [(0xFF07, 0x05)] with c := 0x07 })
      ({ boot 0x0100 [0xF2] [(0xFF07, 0x05)] with c := 0x07, a := 0x05, pc := 0x0101, f := 0xB0, cycles := 2 }),
    leads (boot 0x0100 [0x31, 0xF0, 0xDF] [])
      ({ boot 0x0100 [0x31, 0xF0, 0xDF] [] with sp := 0xDFF0, pc := 0x0103, f := 0xB0, cycles := 3 }),
    leads (boot 0x0100 [0x01, 0x34, 0x12] [])
      ({ boot 0x0100 [0x01, 0x34, 0x12] [] with b := 0x12, c := 0x34, pc := 0x0103, f := 0xB0, cycles := 3 })].all id = true := by decide

theorem test_loads_stores_stack_vectors_4 : [
    leads ({ boot 0x0100 [0xF9] [] with h := 0xDF, l := 0xF0 })
      ({ boot 0x0100 [0xF9] [] with h := 0xDF, l := 0xF0, sp := 0xDFF0, pc := 0x0101, f := 0xB0, cycles := 2 }),
    leads ({ boot 0x0100 [0x08, 0x00, 0xC1] [] with sp := 0xFFF8 })
      ({ boot 0x0100 [0x08, 0x00, 0xC1] [(0xC100, 0xF8), (0xC101, 0xFF)] with sp := 0xFFF8, pc := 0x0103, f := 0xB0, cycles := 5 }),
    leads ({ boot 0x0100 [0x08, 0xFF, 0xFF] [] with sp := 0x1234 })
      ({ boot 0x0100 [0x08, 0xFF, 0xFF] [(0xFFFF, 0x34)] with sp := 0x1234, pc := 0x0103, f := 0xB0, cycles := 5 }),
    leads ({ boot 0x0100 [0xC5] [] with b := 0x12, c := 0x34 })
      ({ boot 0x0100 [0xC5] [(0xFFFC, 0x34), (0xFFFD, 0x12)] with b := 0x12, c := 0x34, sp := 0xFFFC, pc := 0x0101, f := 0xB0, cycles := 4 }),
    leads ({ boot 0x0100 [0xF5] [] with a := 0xAB, f := 0xF0 })
      ({ boot 0x0100 [0xF5] [(0xFFFC, 0xF0), (0xFFFD, 0xAB)] with a := 0xAB, f := 0xF0, sp := 0xFFFC, pc := 0x0101, cycles := 4 }),
    leads ({ boot 0x0100 [0xF1] [(0xFFFC, 0xFF), (0xFFFD, 0x12)] with sp := 0xFFFC })
      ({ boot 0x0100 [0xF1] [(0xFFFC, 0xFF), (0xFFFD, 0x12)] with sp := 0xFFFE, a := 0x12, f := 0xF0, pc := 0x0101, cycles := 3 }),
    leads ({ boot 0x0100 [0xE1] [(0xFFFC, 0x0F), (0xFFFD, 0xF0)] with sp := 0xFFFC })
      ({ boot 0x0100 [0xE1] [(0xFFFC, 0x0F), (0xFFFD, 0xF0)] with sp := 0xFFFE, h := 0xF0, l := 0x0F, pc := 0x0101, f := 0xB0, cycles := 3 })].all id = true := by decide

theorem test_engine_and_cpu_control_vectors_1 : [
    leads (boot 0x0100 [0x00] [])
      ({ boot 0x0100 [0x00] [] with pc := 0x0101, f := 0xB0, cycles := 1 }),
    leads (boot 0x0100 [0x76] [])
      ({ boot 0x0100 [0x76] [] with pc := 0x0101, halted := true, f := 0xB0, cycles := 1 }),
    leads (boot 0x0100 [0x10, 0x00] [])
      ({ boot 0x0100 [0x10, 0x00] [] with pc := 0x0102, stopped := true, f := 0xB0, cycles := 1 }),
    leads ({ boot 0x0100 [0xF3] [] with ime := true })
      ({ boot 0x0100 [0xF3] [] with ime := false, pc := 0x0101, f := 0xB0, cycles := 1 }),
    leads (boot 0x0100 [0xFB] [])
      ({ boot 0x0100 [0xFB] [] with pc := 0x0101, imePending := true, f := 0xB0, cycles := 1 }),
    leads (boot 0x0100 [0xD3] [])
      ({ boot 0x0100 [0xD3] [] with pc := 0x0100, f := 0xB0, cycles := 0, fault := some ⟨.unimplementedOpcode, 0xD3, false, 0x0100⟩ }),
    leads ({ boot 0x0100 [0x00] [] with halted := true })
      ({ boot 0x0100 [0x00] [] with halted := true, pc := 0x0100, f := 0xB0, cycles := 1 })].all id = true := by decide

theorem test_interrupts_vectors_1 : [
    leads ({ boot 0x0100 [0x00] [(0xFFFF, 0x04), (0xFF0F, 0x04)] with ime := true })
      ({ boot 0x0100 [0x00] [(0xFFFF, 0x04), (0xFF0F, 0x00), (0xFFFC, 0x01), (0xFFFD, 0x01)] with ime := false, sp := 0xFFFC, pc := 0x0050, f := 0xB0, cycles := 6 }),
    leads ({ boot 0x0100 [0x00] [(0xFFFF, 0x1F), (0xFF0F, 0x14)] with ime := true })
      ({ boot 0x0100 [0x00] [(0xFFFF, 0x1F), (0xFF0F, 0x10), (0xFFFC, 0x01), (0xFFFD, 0x01)] with ime := false, sp := 0xFFFC, pc := 0x0050, f := 0xB0, cycles := 6 }),
    leads ({ boot 0x0100 [0x00] [(0xFF0F, 0x04)] with ime := true })
      ({ boot 0x0100 [0x00] [(0xFF0F, 0x04)] with ime := true, pc := 0x0101, f := 0xB0, cycles := 1 }),
    leads ({ boot 0x0100 [0x00] [(0xFFFF, 0x01), (0xFF0F, 0x01)] with halted := true })
      ({ boot 0x0100 [0x00] [(0xFFFF, 0x01), (0xFF0F, 0x01)] with halted := false, pc := 0x0100, f := 0xB0, cycles := 1 }),
    leads ({ boot 0x0100 [0x00] [(0xFFFF, 0x10), (0xFF0F, 0x10)] with halted := true, ime := true })
      ({ boot 0x0100 [0x00] [(0xFFFF, 0x10), (0xFF0F, 0x00), (0xFFFD, 0x01)] with halted := false, ime := false, sp := 0xFFFC, pc := 0x0060, f := 0xB0, cycles := 6 }),
    leads (boot 0x0100 [0xFB, 0x00] [(0xFFFF, 0x04), (0xFF0F, 0x04)])
      ({ boot 0x0100 [0xFB, 0x00] [(0xFFFF, 0x04), (0xFF0F, 0x04)] with pc := 0x0101, imePending := true, f := 0xB0, cycles := 1 }),
    leads ({ boot 0x0100 [0xD9] [(0xFFFC, 0x00), (0xFFFD, 0x02), (0xFFFF, 0x08), (0xFF0F, 0x08)] with sp := 0xFFFC })
      ({ boot 0x0100 [0xD9] [(0xFFFC, 0x00), (0xFFFD, 0x02), (0xFFFF, 0x08), (0xFF0F, 0x00)] with sp := 0xFFFC, pc := 0x0058, f := 0xB0, cycles := 9 }),
    leads ({ boot 0x0100 [0xF3] [(0xFFFF, 0x04), (0xFF0F, 0x04)] with ime := true })
      ({ boot 0x0100 [0xF3] [(0xFFFF, 0x04), (0xFF0F, 0x04)] with ime := false, pc := 0x0101, f := 0xB0, cycles := 1 })].all id = true := by decide

theorem test_interrupts_vectors_2 : [
    leads ({ boot 0x0100 [0x00] [(0xFFFF, 0xE0), (0xFF0F, 0xE0)] with ime := true })
      ({ boot 0x0100 [0x00] [(0xFFFF, 0xE0), (0xFF0F, 0xE0)] with ime := true, pc := 0x0101, f := 0xB0, cycles := 1 })].all id = true := by decide

theorem test_timer_vectors_1 : [
    leads (boot 0x0100 [0xEA, 0x00, 0xC0] [(0xFF07, 0x05), (0xFF05, 0x10)])
      ({ boot 0x0100 [0xEA, 0x00, 0xC0] [(0xFF07, 0x05), (0xFF05, 0x11), (0xC000, 0x01)] with pc := 0x0103, f := 0xB0, cycles := 4 }),
    leads ({ boot 0x0100 [0xCD, 0x00, 0xC0] [(0xFF07, 0x05), (0xFF05, 0xFF), (0xFF06, 0xFE)] with sp := 0xD000 })
      ({ boot 0x0100 [0xCD, 0x00, 0xC0] [(0xFF07, 0x05), (0xFF05, 0xFE), (0xFF06, 0xFE), (0xCFFE, 0x03), (0xCFFF, 0x01), (0xFF0F, 0x04)] with sp := 0xCFFE, pc := 0xC000, f := 0xB0, cycles := 6 })].all id = true := by decide


/-! ### Decoding: every word of opcode_table.json, a row of 16 at a time. The immediates after an opcode are zero bytes. -/

theorem test_decode_base_0 : ([0x00, 0x01, 0x02, 0x03, 0x04, 0x05, 0x06, 0x07, 0x08, 0x09, 0x0A, 0x0B, 0x0C, 0x0D, 0x0E, 0x0F].map (decodeTableWord 8)) = ([.nop, .ld_BC_nn 0, .ld_atBC_A, .inc_BC, .inc_B, .dec_B, .ld_B_n 0, .rlca, .ld_atnn_SP 0, .add_HL_BC, .ld_A_atBC, .dec_BC, .inc_C, .dec_C, .ld_C_n 0, .rrca] : List Instr).map some := by decide
theorem test_decode_base_1 : ([0x10, 0x11, 0x12, 0x13, 0x14, 0x15, 0x16, 0x17, 0x18, 0x19, 0x1A, 0x1B, 0x1C, 0x1D, 0x1E, 0x1F].map (decodeTableWord 8)) = ([.stop (some 0), .ld_DE_nn 0, .ld_atDE_A, .inc_DE, .inc_D, .dec_D, .ld_D_n 0, .rla, .jr_e 0, .add_HL_DE, .ld_A_atDE, .dec_DE, .inc_E, .dec_E, .ld_E_n 0, .rra] : List Instr).map some := by decide
theorem test_decode_base_2 : ([0x20, 0x21, 0x22, 0x23, 0x24, 0x25, 0x26, 0x27, 0x28, 0x29, 0x2A, 0x2B, 0x2C, 0x2D, 0x2E, 0x2F].map (decodeTableWord 8)) = ([.jr_NZ_e 0, .ld_HL_nn 0, .ld_atHLinc_A, .inc_HL, .inc_H, .dec_H, .ld_H_n 0, .daa, .jr_Z_e 0, .add_HL_HL, .ld_A_atHLinc, .dec_HL, .inc_L, .dec_L, .ld_L_n 0, .cpl] : List Instr).map some := by decide
theorem test_decode_base_3 : ([0x30, 0x31, 0x32, 0x33, 0x34, 0x35, 0x36, 0x37, 0x38, 0x39, 0x3A, 0x3B, 0x3C, 0x3D, 0x3E, 0x3F].map (decodeTableWord 8)) = ([.jr_NC_e 0, .ld_SP_nn 0, .ld_atHLdec_A, .inc_SP, .inc_atHL, .dec_atHL, .ld_atHL_n 0, .scf, .jr_C_e 0, .add_HL_SP, .ld_A_atHLdec, .dec_SP, .inc_A, .dec_A, .ld_A_n 0, .ccf] : List Instr).map some := by decide
theorem test_decode_base_4 : ([0x40, 0x41, 0x42, 0x43, 0x44, 0x45, 0x46, 0x47, 0x48, 0x49, 0x4A, 0x4B, 0x4C, 0x4D, 0x4E, 0x4F].map (decodeTableWord 8)) = ([.ld_B_B, .ld_B_C, .ld_B_D, .ld_B_E, .ld_B_H, .ld_B_L, .ld_B_atHL, .ld_B_A, .ld_C_B, .ld_C_C, .ld_C_D, .ld_C_E, .ld_C_H, .ld_C_L, .ld_C_atHL, .ld_C_A] : List Instr).map some := by decide
theorem test_decode_base_5 : ([0x50, 0x51, 0x52, 0x53, 0x54, 0x55, 0x56, 0x57, 0x58, 0x59, 0x5A, 0x5B, 0x5C, 0x5D, 0x5E, 0x5F].map (decodeTableWord 8)) = ([.ld_D_B, .ld_D_C, .ld_D_D, .ld_D_E, .ld_D_H, .ld_D_L, .ld_D_atHL, .ld_D_A, .ld_E_B, .ld_E_C, .ld_E_D, .ld_E_E, .ld_E_H, .ld_E_L, .ld_E_atHL, .ld_E_A] : List Instr).map some := by decide
theorem test_decode_base_6 : ([0x60, 0x61, 0x62, 0x63, 0x64, 0x65, 0x66, 0x67, 0x68, 0x69, 0x6A, 0x6B, 0x6C, 0x6D, 0x6E, 0x6F].map (decodeTableWord 8)) = ([.ld_H_B, .ld_H_C, .ld_H_D, .ld_H_E, .ld_H_H, .ld_H_L, .ld_H_atHL, .ld_H_A, .ld_L_B, .ld_L_C, .ld_L_D, .ld_L_E, .ld_L_H, .ld_L_L, .ld_L_atHL, .ld_L_A] : List Instr).map some := by decide
theorem test_decode_base_7 : ([0x70, 0x71, 0x72, 0x73, 0x74, 0x75, 0x76, 0x77, 0x78, 0x79, 0x7A, 0x7B, 0x7C, 0x7D, 0x7E, 0x7F].map (decodeTableWord 8)) = ([.ld_atHL_B, .ld_atHL_C, .ld_atHL_D, .ld_atHL_E, .ld_atHL_H, .ld_atHL_L, .halt, .ld_atHL_A, .ld_A_B, .ld_A_C, .ld_A_D, .ld_A_E, .ld_A_H, .ld_A_L, .ld_A_atHL, .ld_A_A] : List Instr).map some := by decide
theorem test_decode_base_8 : ([0x80, 0x81, 0x82, 0x83, 0x84, 0x85, 0x86, 0x87, 0x88, 0x89, 0x8A, 0x8B, 0x8C, 0x8D, 0x8E, 0x8F].map (decodeTableWord 8)) = ([.add_A_B, .add_A_C, .add_A_D, .add_A_E, .add_A_H, .add_A_L, .add_A_atHL, .add_A_A, .adc_A_B, .adc_A_C, .adc_A_D, .adc_A_E, .adc_A_H, .adc_A_L, .adc_A_atHL, .adc_A_A] : List Instr).map some := by decide
theorem test_decode_base_9 : ([0x90, 0x91, 0x92, 0x93, 0x94, 0x95, 0x96, 0x97, 0x98, 0x99, 0x9A, 0x9B, 0x9C, 0x9D, 0x9E, 0x9F].map (decodeTableWord 8)) = ([.sub_B, .sub_C, .sub_D, .sub_E, .sub_H, .sub_L, .sub_atHL, .sub_A, .sbc_A_B, .sbc_A_C, .sbc_A_D, .sbc_A_E, .sbc_A_H, .sbc_A_L, .sbc_A_atHL, .sbc_A_A] : List Instr).map some := by decide
theorem test_decode_base_A : ([0xA0, 0xA1, 0xA2, 0xA3, 0xA4, 0xA5, 0xA6, 0xA7, 0xA8, 0xA9, 0xAA, 0xAB, 0xAC, 0xAD, 0xAE, 0xAF].map (decodeTableWord 8)) = ([.and_B, .and_C, .and_D, .and_E, .and_H, .and_L, .and_atHL, .and_A, .xor_B, .xor_C, .xor_D, .xor_E, .xor_H, .xor_L, .xor_atHL, .xor_A] : List Instr).map some := by decide
theorem test_decode_base_B : ([0xB0, 0xB1, 0xB2, 0xB3, 0xB4, 0xB5, 0xB6, 0xB7, 0xB8, 0xB9, 0xBA, 0xBB, 0xBC, 0xBD, 0xBE, 0xBF].map (decodeTableWord 8)) = ([.or_B, .or_C, .or_D, .or_E, .or_H, .or_L, .or_atHL, .or_A, .cp_B, .cp_C, .cp_D, .cp_E, .cp_H, .cp_L, .cp_atHL, .cp_A] : List Instr).map some := by decide
theorem test_decode_base_C : ([0xC0, 0xC1, 0xC2, 0xC3, 0xC4, 0xC5, 0xC6, 0xC7, 0xC8, 0xC9, 0xCA, 0xCB, 0xCC, 0xCD, 0xCE, 0xCF].map (decodeTableWord 8)) = ([.ret_NZ, .pop_BC, .jp_NZ_nn 0, .jp_nn 0, .call_NZ_nn 0, .push_BC, .add_A_n 0, .rst_00, .ret_Z, .ret, .jp_Z_nn 0, .rlc_B, .call_Z_nn 0, .call_nn 0, .adc_A_n 0, .rst_08] : List Instr).map some := by decide
theorem test_decode_base_D : ([0xD0, 0xD1, 0xD2, 0xD3, 0xD4, 0xD5, 0xD6, 0xD7, 0xD8, 0xD9, 0xDA, 0xDB, 0xDC, 0xDD, 0xDE, 0xDF].map (decodeTableWord 8)) = ([.ret_NC, .pop_DE, .jp_NC_nn 0, .undef_D3, .call_NC_nn 0, .push_DE, .sub_n 0, .rst_10, .ret_C, .reti, .jp_C_nn 0, .undef_DB, .call_C_nn 0, .undef_DD, .sbc_A_n 0, .rst_18] : List Instr).map some := by decide
theorem test_decode_base_E : ([0xE0, 0xE1, 0xE2, 0xE3, 0xE4, 0xE5, 0xE6, 0xE7, 0xE8, 0xE9, 0xEA, 0xEB, 0xEC, 0xED, 0xEE, 0xEF].map (decodeTableWord 8)) = ([.ldh_atn_A 0, .pop_HL, .ld_atC_A, .undef_E3, .undef_E4, .push_HL, .and_n 0, .rst_20, .add_SP_e 0, .jp_HL, .ld_atnn_A 0, .undef_EB, .undef_EC, .undef_ED, .xor_n 0, .rst_28] : List Instr).map some := by decide
theorem test_decode_base_F : ([0xF0, 0xF1, 0xF2, 0xF3, 0xF4, 0xF5, 0xF6, 0xF7, 0xF8, 0xF9, 0xFA, 0xFB, 0xFC, 0xFD, 0xFE, 0xFF].map (decodeTableWord 8)) = ([.ldh_A_atn 0, .pop_AF, .ld_A_atC, .di, .undef_F4, .push_AF, .or_n 0, .rst_30, .ld_HL_SPe 0, .ld_SP_HL, .ld_A_atnn 0, .ei, .undef_FC, .undef_FD, .cp_n 0, .rst_38] : List Instr).map some := by decide
theorem test_decode_cb_0 : ([0xCB00, 0xCB01, 0xCB02, 0xCB03, 0xCB04, 0xCB05, 0xCB06, 0xCB07, 0xCB08, 0xCB09, 0xCB0A, 0xCB0B, 0xCB0C, 0xCB0D, 0xCB0E, 0xCB0F].map (decodeTableWord 16)) = ([.rlc_B, .rlc_C, .rlc_D, .rlc_E, .rlc_H, .rlc_L, .rlc_atHL, .rlc_A, .rrc_B, .rrc_C, .rrc_D, .rrc_E, .rrc_H, .rrc_L, .rrc_atHL, .rrc_A] : List Instr).map some := by decide
theorem test_decode_cb_1 : ([0xCB10, 0xCB11, 0xCB12, 0xCB13, 0xCB14, 0xCB15, 0xCB16, 0xCB17, 0xCB18, 0xCB19, 0xCB1A, 0xCB1B, 0xCB1C, 0xCB1D, 0xCB1E, 0xCB1F].map (decodeTableWord 16)) = ([.rl_B, .rl_C, .rl_D, .rl_E, .rl_H, .rl_L, .rl_atHL, .rl_A, .rr_B, .rr_C, .rr_D, .rr_E, .rr_H, .rr_L, .rr_atHL, .rr_A] : List Instr).map some := by decide
theorem test_decode_cb_2 : ([0xCB20, 0xCB21, 0xCB22, 0xCB23, 0xCB24, 0xCB25, 0xCB26, 0xCB27, 0xCB28, 0xCB29, 0xCB2A, 0xCB2B, 0xCB2C, 0xCB2D, 0xCB2E, 0xCB2F].map (decodeTableWord 16)) = ([.sla_B, .sla_C, .sla_D, .sla_E, .sla_H, .sla_L, .sla_atHL, .sla_A, .sra_B, .sra_C, .sra_D, .sra_E, .sra_H, .sra_L, .sra_atHL, .sra_A] : List Instr).map some := by decide
theorem test_decode_cb_3 : ([0xCB30, 0xCB31, 0xCB32, 0xCB33, 0xCB34, 0xCB35, 0xCB36, 0xCB37, 0xCB38, 0xCB39, 0xCB3A, 0xCB3B, 0xCB3C, 0xCB3D, 0xCB3E, 0xCB3F].map (decodeTableWord 16)) = ([.swap_B, .swap_C, .swap_D, .swap_E, .swap_H, .swap_L, .swap_atHL, .swap_A, .srl_B, .srl_C, .srl_D, .srl_E, .srl_H, .srl_L, .srl_atHL, .srl_A] : List Instr).map some := by decide
theorem test_decode_cb_4 : ([0xCB40, 0xCB41, 0xCB42, 0xCB43, 0xCB44, 0xCB45, 0xCB46, 0xCB47, 0xCB48, 0xCB49, 0xCB4A, 0xCB4B, 0xCB4C, 0xCB4D, 0xCB4E, 0xCB4F].map (decodeTableWord 16)) = ([.bit_0_B, .bit_0_C, .bit_0_D, .bit_0_E, .bit_0_H, .bit_0_L, .bit_0_atHL, .bit_0_A, .bit_1_B, .bit_1_C, .bit_1_D, .bit_1_E, .bit_1_H, .bit_1_L, .bit_1_atHL, .bit_1_A] : List Instr).map some := by decide
theorem test_decode_cb_5 : ([0xCB50, 0xCB51, 0xCB52, 0xCB53, 0xCB54, 0xCB55, 0xCB56, 0xCB57, 0xCB58, 0xCB59, 0xCB5A, 0xCB5B, 0xCB5C, 0xCB5D, 0xCB5E, 0xCB5F].map (decodeTableWord 16)) = ([.bit_2_B, .bit_2_C, .bit_2_D, .bit_2_E, .bit_2_H, .bit_2_L, .bit_2_atHL, .bit_2_A, .bit_3_B, .bit_3_C, .bit_3_D, .bit_3_E, .bit_3_H, .bit_3_L, .bit_3_atHL, .bit_3_A] : List Instr).map some := by decide
theorem test_decode_cb_6 : ([0xCB60, 0xCB61, 0xCB62, 0xCB63, 0xCB64, 0xCB65, 0xCB66, 0xCB67, 0xCB68, 0xCB69, 0xCB6A, 0xCB6B, 0xCB6C, 0xCB6D, 0xCB6E, 0xCB6F].map (decodeTableWord 16)) = ([.bit_4_B, .bit_4_C, .bit_4_D, .bit_4_E, .bit_4_H, .bit_4_L, .bit_4_atHL, .bit_4_A, .bit_5_B, .bit_5_C, .bit_5_D, .bit_5_E, .bit_5_H, .bit_5_L, .bit_5_atHL, .bit_5_A] : List Instr).map some := by decide
theorem test_decode_cb_7 : ([0xCB70, 0xCB71, 0xCB72, 0xCB73, 0xCB74, 0xCB75, 0xCB76, 0xCB77, 0xCB78, 0xCB79, 0xCB7A, 0xCB7B, 0xCB7C, 0xCB7D, 0xCB7E, 0xCB7F].map (decodeTableWord 16)) = ([.bit_6_B, .bit_6_C, .bit_6_D, .bit_6_E, .bit_6_H, .bit_6_L, .bit_6_atHL, .bit_6_A, .bit_7_B, .bit_7_C, .bit_7_D, .bit_7_E, .bit_7_H, .bit_7_L, .bit_7_atHL, .bit_7_A] : List Instr).map some := by decide
theorem test_decode_cb_8 : ([0xCB80, 0xCB81, 0xCB82, 0xCB83, 0xCB84, 0xCB85, 0xCB86, 0xCB87, 0xCB88, 0xCB89, 0xCB8A, 0xCB8B, 0xCB8C, 0xCB8D, 0xCB8E, 0xCB8F].map (decodeTableWord 16)) = ([.res_0_B, .res_0_C, .res_0_D, .res_0_E, .res_0_H, .res_0_L, .res_0_atHL, .res_0_A, .res_1_B, .res_1_C, .res_1_D, .res_1_E, .res_1_H, .res_1_L, .res_1_atHL, .res_1_A] : List Instr).map some := by decide
theorem test_decode_cb_9 : ([0xCB90, 0xCB91, 0xCB92, 0xCB93, 0xCB94, 0xCB95, 0xCB96, 0xCB97, 0xCB98, 0xCB99, 0xCB9A, 0xCB9B, 0xCB9C, 0xCB9D, 0xCB9E, 0xCB9F].map (decodeTableWord 16)) = ([.res_2_B, .res_2_C, .res_2_D, .res_2_E, .res_2_H, .res_2_L, .res_2_atHL, .res_2_A, .res_3_B, .res_3_C, .res_3_D, .res_3_E, .res_3_H, .res_3_L, .res_3_atHL, .res_3_A] : List Instr).map some := by decide
theorem test_decode_cb_A : ([0xCBA0, 0xCBA1, 0xCBA2, 0xCBA3, 0xCBA4, 0xCBA5, 0xCBA6, 0xCBA7, 0xCBA8, 0xCBA9, 0xCBAA, 0xCBAB, 0xCBAC, 0xCBAD, 0xCBAE, 0xCBAF].map (decodeTableWord 16)) = ([.res_4_B, .res_4_C, .res_4_D, .res_4_E, .res_4_H, .res_4_L, .res_4_atHL, .res_4_A, .res_5_B, .res_5_C, .res_5_D, .res_5_E, .res_5_H, .res_5_L, .res_5_atHL, .res_5_A] : List Instr).map some := by decide
theorem test_decode_cb_B : ([0xCBB0, 0xCBB1, 0xCBB2, 0xCBB3, 0xCBB4, 0xCBB5, 0xCBB6, 0xCBB7, 0xCBB8, 0xCBB9, 0xCBBA, 0xCBBB, 0xCBBC, 0xCBBD, 0xCBBE, 0xCBBF].map (decodeTableWord 16)) = ([.res_6_B, .res_6_C, .res_6_D, .res_6_E, .res_6_H, .res_6_L, .res_6_atHL, .res_6_A, .res_7_B, .res_7_C, .res_7_D, .res_7_E, .res_7_H, .res_7_L, .res_7_atHL, .res_7_A] : List Instr).map some := by decide
theorem test_decode_cb_C : ([0xCBC0, 0xCBC1, 0xCBC2, 0xCBC3, 0xCBC4, 0xCBC5, 0xCBC6, 0xCBC7, 0xCBC8, 0xCBC9, 0xCBCA, 0xCBCB, 0xCBCC, 0xCBCD, 0xCBCE, 0xCBCF].map (decodeTableWord 16)) = ([.set_0_B, .set_0_C, .set_0_D, .set_0_E, .set_0_H, .set_0_L, .set_0_atHL, .set_0_A, .set_1_B, .set_1_C, .set_1_D, .set_1_E, .set_1_H, .set_1_L, .set_1_atHL, .set_1_A] : List Instr).map some := by decide
theorem test_decode_cb_D : ([0xCBD0, 0xCBD1, 0xCBD2, 0xCBD3, 0xCBD4, 0xCBD5, 0xCBD6, 0xCBD7, 0xCBD8, 0xCBD9, 0xCBDA, 0xCBDB, 0xCBDC, 0xCBDD, 0xCBDE, 0xCBDF].map (decodeTableWord 16)) = ([.set_2_B, .set_2_C, .set_2_D, .set_2_E, .set_2_H, .set_2_L, .set_2_atHL, .set_2_A, .set_3_B, .set_3_C, .set_3_D, .set_3_E, .set_3_H, .set_3_L, .set_3_atHL, .set_3_A] : List Instr).map some := by decide
theorem test_decode_cb_E : ([0xCBE0, 0xCBE1, 0xCBE2, 0xCBE3, 0xCBE4, 0xCBE5, 0xCBE6, 0xCBE7, 0xCBE8, 0xCBE9, 0xCBEA, 0xCBEB, 0xCBEC, 0xCBED, 0xCBEE, 0xCBEF].map (decodeTableWord 16)) = ([.set_4_B, .set_4_C, .set_4_D, .set_4_E, .set_4_H, .set_4_L, .set_4_atHL, .set_4_A, .set_5_B, .set_5_C, .set_5_D, .set_5_E, .set_5_H, .set_5_L, .set_5_atHL, .set_5_A] : List Instr).map some := by decide
theorem test_decode_cb_F : ([0xCBF0, 0xCBF1, 0xCBF2, 0xCBF3, 0xCBF4, 0xCBF5, 0xCBF6, 0xCBF7, 0xCBF8, 0xCBF9, 0xCBFA, 0xCBFB, 0xCBFC, 0xCBFD, 0xCBFE, 0xCBFF].map (decodeTableWord 16)) = ([.set_6_B, .set_6_C, .set_6_D, .set_6_E, .set_6_H, .set_6_L, .set_6_atHL, .set_6_A, .set_7_B, .set_7_C, .set_7_D, .set_7_E, .set_7_H, .set_7_L, .set_7_atHL, .set_7_A] : List Instr).map some := by decide

/-! ### Well-formedness (smoke): the two checks, and terms they refuse -/

theorem test_wf_refuses_the_prefix_row : (Instr.prefixCB 0x37).wf .two = false := by decide
theorem test_wf_refuses_a_stop_of_the_other_length :
    (Instr.stop none).wf .two = false ∧ (Instr.stop (some 0x00)).wf .one = false := by decide
theorem test_wf_accepts_the_rest :
    [Instr.swap_A, .stop (some 0x00), .undef_D3, .jp_nn 0xFFFF].all (Instr.wf .two) = true ∧
    (Instr.stop none).wf .one = true := by decide

/-! ### Words written out bit by bit from R102 to R115, one for every family (x y z, or prefix and group y z) -/

theorem test_bits_ld_D_E : decodeTableWord 8 0b01010011 = some .ld_D_E := by decide
theorem test_bits_ld_HL_nn : decode .two [0b00100001, 0x34, 0x12] = .ok (.ld_HL_nn 0x1234, []) := by decide
theorem test_bits_xor_L : decodeTableWord 8 0b10101101 = some .xor_L := by decide
theorem test_bits_dec_DE : decodeTableWord 8 0b00011011 = some .dec_DE := by decide
theorem test_bits_set_7_atHL : decodeTableWord 16 0b1100101111111110 = some .set_7_atHL := by decide
theorem test_bits_call_NC : decode .two [0b11010100, 0xCD, 0xAB] = .ok (.call_NC_nn 0xABCD, []) := by decide
theorem test_bits_rst_38 : decodeTableWord 8 0b11111111 = some .rst_38 := by decide
theorem test_bits_stop : decode .two [0b00010000, 0xCB, 0x00] = .ok (.stop (some 0xCB), [0x00]) ∧
    decode .one [0b00010000, 0xCB, 0x00] = .ok (.stop none, [0xCB, 0x00]) := by decide
theorem test_bits_unimplemented : decodeTableWord 8 0b11101011 = some .undef_EB := by decide

/-! ### The fetch of a table word, and the rule of the prefix byte -/

theorem test_withFetchWord_runs_the_word :
    [(State.reset.withFetchWord 16 0xCB37).fetchInstr, (State.reset.withFetchWord 8 0x3E).fetchInstr] =
      [.swap_A, .ld_A_n 0] := by decide

/-! ### Witnesses: for each statement with hypotheses, a state and operands that meet them, clause by clause -/

/-- A state that has met HALT: IE and IF as given, `ime` as given. -/
def asleep (ie iflag : Byte) (ime : Bool) : State :=
  { boot 0x0200 [0x00] [(0xFFFF, ie), (0xFF0F, iflag)] with halted := true, ime := ime }

/-- A state without a dispatcher. -/
def alone (code : List Byte) : State :=
  { boot 0xC000 code [] with cfg := { Config.standard with dispatch := .absent } }

/-- Some fields of the state after one step, or nothing. -/
def after {α : Type} (s : State) (f : State → α) : Option α :=
  match step s with
  | .next t => some (f t)
  | _ => none

/-- Some fields of the state after one instruction, or nothing. -/
def ran {α : Type} (i : Instr) (s : State) (f : State → α) : Option α :=
  match exec i s with
  | .next t => some (f t)
  | _ => none

theorem witness_DecodeOfEncodeIsTheInstruction : (Instr.ld_SP_nn 0xFFFE).wf .two = true ∧
    (Instr.stop none).wf .one = true := by decide

theorem witness_EncodeOfDecodeIsTheBytes :
    decode .two [0xCB, 0x7E, 0xFF] = .ok (.bit_7_atHL, [0xFF]) := by decide

/-- Both sides of each length: exactly enough bytes, and one too few. -/
theorem witness_LengthIsDecidedByTheFirstByte :
    ([[0x01, 0xAA, 0xBB], [0xCB, 0x11], [0x76]] : List (List Byte)).map (decode .two) =
      [.ok (.ld_BC_nn 0xBBAA, []), .ok (.rl_C, []), .ok (.halt, [])] ∧
    ([[0x01, 0xAA], [0xCB], [0x10]] : List (List Byte)).map (decode .two) =
      [.error (.truncated 0x01 3), .error (.truncated 0xCB 2), .error (.truncated 0x10 2)] ∧
    decode .one [0x10] = .ok (.stop none, []) := by decide

theorem witness_StepRunsTheInstructionAtPC_completed :
    (boot 0x0100 [0x3E, 0x7F] []).Running ∧
    decode .two [0x3E, 0x7F, 0x00] = .ok (.ld_A_n 0x7F, [0x00]) ∧
    ran (.ld_A_n 0x7F) (boot 0x0100 [0x3E, 0x7F] []) (fun t => t.fault) = some none :=
  ⟨⟨rfl, rfl, rfl⟩, by decide, by decide⟩

theorem witness_StepRunsTheInstructionAtPC_faulted :
    (boot 0x0100 [0xD3] []).Running ∧ decode .two [0xD3, 0x00, 0x00] = .ok (.undef_D3, [0x00, 0x00]) ∧
    ran .undef_D3 (boot 0x0100 [0xD3] []) (fun t => t.fault) =
      some (some ⟨.unimplementedOpcode, 0xD3, false, 0x0100⟩) :=
  ⟨⟨rfl, rfl, rfl⟩, by decide, by decide⟩

/-- EI and then NOP with an enabled request waiting, under the dispatcher: no entry at the EI, one at the end of
the NOP, which pushes 0xC002. Without a dispatcher: EI and then NOP; EI and then EI. -/
theorem witness_EiEnablesAfterTheNextInstruction :
    (boot 0xC000 [0xFB, 0x00] [(0xFFFF, 0x1F), (0xFF0F, 0x14)]).Running ∧
    (boot 0xC000 [0xFB, 0x00] [(0xFFFF, 0x1F), (0xFF0F, 0x14)]).imePending = false ∧
    (boot 0xC000 [0xFB, 0x00] [(0xFFFF, 0x1F), (0xFF0F, 0x14)]).ime = false ∧
    (boot 0xC000 [0xFB, 0x00] [(0xFFFF, 0x1F), (0xFF0F, 0x14)]).readByte 0xC000 = 0xFB ∧
    (match step (boot 0xC000 [0xFB, 0x00] [(0xFFFF, 0x1F), (0xFF0F, 0x14)]) with
      | .next t => after t fun u => (t.pc, t.sp, t.imePending, u.pc, u.cycles, u.readByte 0xFFFC)
      | _ => none) = some (0xC001, 0xFFFE, true, 0x0050, 7, 0x02) ∧
    (alone [0xFB, 0x00]).Running ∧ (alone [0xFB, 0x00]).cfg.dispatch = .absent ∧
    (match step (alone [0xFB, 0x00]) with
      | .next t => after t (fun u => (u.fault, u.ime, u.imePending))
      | _ => none) = some (none, true, false) ∧
    (match step (alone [0xFB, 0xFB]) with
      | .next t => after t (fun u => (u.fault, u.ime, u.imePending))
      | _ => none) = some (none, true, true) :=
  ⟨⟨rfl, rfl, rfl⟩, rfl, rfl, by decide, by decide, ⟨rfl, rfl, rfl⟩, rfl, by decide, by decide⟩

theorem witness_HaltedStepOnlyCountsTime : (asleep 0x00 0x00 false).InHalt ∧
    after (asleep 0x00 0x00 false) (fun t => (t.halted, t.pc, t.cycles, t.divAcc)) =
      some (true, 0x0200, 1, 4) := ⟨⟨rfl, rfl, rfl⟩, by decide⟩

theorem witness_FaultedOrStoppedStateHasNoStep :
    ({ State.reset with fault := some ⟨.unimplementedOpcode, 0xFD, false, 0x0100⟩ } : State).fault =
      some ⟨.unimplementedOpcode, 0xFD, false, 0x0100⟩ ∧
    ({ State.reset with stopped := true } : State).fault = none ∧
    ({ State.reset with stopped := true } : State).stopped = true := by decide

theorem witness_ElevenBytesRaiseTheFatalFault :
    (boot 0x0100 [0xFD] []).Running ∧ (boot 0x0100 [0xFD] []).readByte 0x0100 = 0xFD ∧
    (boot 0x0100 [0xFE] []).Running ∧
    (boot 0x0100 [0xFE] []).readByte 0x0100 ∉
      ([0xD3, 0xDB, 0xDD, 0xE3, 0xE4, 0xEB, 0xEC, 0xED, 0xF4, 0xFC, 0xFD] : List Byte) :=
  ⟨⟨rfl, rfl, rfl⟩, by decide, ⟨rfl, rfl, rfl⟩, by decide⟩

/-- The three outcomes: the fault, no entry, an entry. -/
theorem witness_StepAddsItsDeltaToCycles :
    [after (boot 0x0100 [0xD3] []) (fun t => (t.fault.isSome, t.delta, t.cycles)),
     after (boot 0x0100 [0xCD, 0x00, 0x02] []) (fun t => (t.fault.isSome, t.delta, t.cycles)),
     after (asleep 0x04 0x04 true) (fun t => (t.fault.isSome, t.delta, t.cycles))] =
      [some (true, 0, 0), some (false, 6, 6), some (false, 1, 6)] := by decide

/-- A machine with other costs than the default: 9 for NOP, 7 and 8 for JR NZ, 6 for RLC B. -/
def slow (code : List Byte) : State :=
  { boot 0x0100 code [] with cfg := { Config.standard with
      cycles := { base := [(0x00, .one 9), (0x20, .two 7 8)], cb := [(0x00, 6)] } } }

/-- A conditional transfer on both paths: CALL Z,nn at reset's FZ = 1, and RET NC at reset's FC = 1; and costs
other than the default. -/
theorem witness_CyclesAreThoseOfTheTable :
    conditionField 0xCC State.reset = true ∧ conditionField 0xD0 State.reset = false ∧
    ran (.call_Z_nn 0x0200) State.reset (fun t => t.delta) = some 6 ∧
    ran .ret_NC State.reset (fun t => t.delta) = some 2 ∧
    [after (slow [0x00]) (fun t => (t.delta, t.cycles, t.divAcc)),
     after (slow [0x20, 0x00]) (fun t => (t.delta, t.cycles, t.divAcc)),
     after { slow [0x20, 0x00] with f := 0x00 } (fun t => (t.delta, t.cycles, t.divAcc)),
     after (slow [0xCB, 0x00]) (fun t => (t.delta, t.cycles, t.divAcc))] =
      [some (9, 9, 36), some (7, 7, 28), some (8, 8, 32), some (6, 6, 24)] := by decide

/-- TAC off; TAC on short of an overflow (TIMA 0xFE to 0xFF); TAC on with the overflow (0xFF to TMA); the overflow
and one more tick in one advance (TIMA 0xFF, tima_acc 12, the 24 clocks of a CALL: 36 is two periods); and three
overflows in one advance (TMA 0xFF). -/
theorem witness_TimaCountsPeriodsWhileEnabled :
    (0x03 : Byte).getLsbD 2 = false ∧ (0x05 : Byte).getLsbD 2 = true ∧
    [(boot 0x0100 [] [(0xFF05, 0xFE), (0xFF07, 0x05)]).advanceTimer 31,
     (boot 0x0100 [] [(0xFF05, 0xFE), (0xFF06, 0x42), (0xFF07, 0x05)]).advanceTimer 32,
     ({ boot 0x0100 [] [(0xFF05, 0xFF), (0xFF06, 0x42), (0xFF07, 0x05)] with timaAcc := 12 } : State).advanceTimer 24,
     (boot 0x0100 [] [(0xFF05, 0xFF), (0xFF06, 0xFF), (0xFF07, 0x05)]).advanceTimer 48].map
      (fun t => (t.readByte 0xFF05, t.readByte 0xFF0F, t.timaAcc)) =
      [(0xFF, 0x00, 15), (0x42, 0x04, 0), (0x43, 0x04, 4), (0xFF, 0x04, 0)] := by decide

/-- The lowest and the highest source. -/
theorem witness_InterruptEntrySavesPCAndMasks :
    0 < 5 ∧ 4 < 5 ∧
    [(asleep 0x1F 0x1F true).enterInterrupt 0, (asleep 0x1F 0x1F true).enterInterrupt 4].map
      (fun t => (t.pc, t.readByte 0xFF0F, t.ime, t.halted, t.sp, t.readByte 0xFFFD)) =
      [(0x0040, 0x1E, false, false, 0xFFFC, 0x02), (0x0060, 0x0F, false, false, 0xFFFC, 0x02)] := by decide

/-- Every clause: no dispatcher, a fault, stopped, nothing pending, woken without entry, entered. -/
theorem witness_InterruptCheckTakesTheLowestPendingBit :
    (alone []).cfg.dispatch = .absent ∧
    ({ State.reset with fault := some ⟨.unimplementedOpcode, 0xD3, false, 0⟩ } : State).fault ≠ none ∧
    ({ State.reset with stopped := true } : State).stopped = true ∧
    (asleep 0x1F 0xE0 true).cfg.dispatch = .standard ∧ (asleep 0x1F 0xE0 true).Live ∧
    (asleep 0x1F 0xE0 true).pendingInterrupts = 0 ∧
    (asleep 0x14 0x1C false).pendingInterrupts = 0x14 ∧
    (asleep 0x14 0x1C false).interruptCheck.pc = 0x0200 ∧
    (asleep 0x14 0x1C false).interruptCheck.halted = false ∧
    (asleep 0x14 0x1C true).interruptCheck.pc = 0x0050 :=
  ⟨rfl, by decide, rfl, rfl, ⟨rfl, rfl⟩, by decide, by decide, by decide, by decide, by decide⟩

theorem witness_PendingRequestEndsHalted :
    (asleep 0x01 0x01 false).InHalt ∧ (asleep 0x01 0x01 false).cfg.dispatch = .standard ∧
    (asleep 0x01 0x01 false).readByte 0xFFFF &&& (asleep 0x01 0x01 false).readByte 0xFF0F &&& 0x1F ≠ 0 ∧
    (asleep 0x01 0x01 false).ime = false := ⟨⟨rfl, rfl, rfl⟩, rfl, by decide, rfl⟩

theorem witness_ResetMeetsTheInvariant : (image [(0xFFFF, 0x1F), (0x0100, 0xC3)]).wf = true := by decide

/-- A step that writes memory, from a state that meets the invariant. -/
theorem witness_StepKeepsTheInvariant :
    (boot 0x0100 [0xC5] []).wf = true ∧
    after (boot 0x0100 [0xC5] []) (fun t => (t.wf, t.readByte 0xFFFC)) = some (true, 0x13) := by decide

/-- LD (HL),A with HL at the last ROM byte: the store is dropped. -/
theorem witness_NoStepChangesROM :
    (0x7FFF : Word).toNat < Config.standard.romEnd ∧ (0x7FFF : Word).toNat < 0xFF04 ∧
    after { boot 0x0100 [0x77] [] with h := 0x7F, l := 0xFF } (fun t => t.readByte 0x7FFF) = some 0x00 := by decide

theorem witness_NoStepRecordsInvalidOperandIndex :
    after (boot 0x0100 [0xED] []) (fun t => t.fault) =
      some (some ⟨.unimplementedOpcode, 0xED, false, 0x0100⟩) := by decide

/-- Set by RETI; set by the EI before; cleared by DI; cleared by an entry. -/
theorem witness_OnlyEiDiRetiAndEntryWriteIme :
    [after (boot 0x0100 [0xD9] []) (fun t => t.ime),
     after { boot 0x0100 [0x00] [] with imePending := true } (fun t => t.ime),
     after { boot 0x0100 [0xF3] [] with ime := true } (fun t => t.ime),
     after (asleep 0x04 0x04 true) (fun t => t.ime)] = [some true, some true, some false, some false] ∧
    after (asleep 0x1C 0x14 true) (fun t => (t.delta, t.cycles, t.sp, t.pc)) = some (1, 6, 0xFFFC, 0x0050) := by decide

theorem witness_OnlyHaltAndStopLeaveRunning :
    (boot 0x0100 [0x76] []).Running ∧ after (boot 0x0100 [0x76] []) (fun t => t.halted) = some true ∧
    (boot 0x0100 [0x10] []).Running ∧ after (boot 0x0100 [0x10] []) (fun t => t.stopped) = some true :=
  ⟨⟨rfl, rfl, rfl⟩, by decide, ⟨rfl, rfl, rfl⟩, by decide⟩

/-- The last ROM byte, the first byte above it, DIV, and another address. -/
theorem witness_WriteByteStoresResetsDivOrIsDropped :
    (0x7FFF : Word).toNat < State.reset.cfg.romEnd ∧ State.reset.cfg.romEnd ≤ (0x8000 : Word).toNat ∧
    State.reset.cfg.romEnd ≤ (0xFF04 : Word).toNat ∧ (0x8001 : Word) ≠ 0x8000 ∧
    [State.reset.writeByte 0x7FFF 0xAA, State.reset.writeByte 0x8000 0xAA, State.reset.writeByte 0xFF04 0xAA].map
      (fun t => (t.readByte 0x7FFF, t.readByte 0x8000, t.readByte 0xFF04)) =
      [(0x00, 0x00, 0x00), (0x00, 0xAA, 0x00), (0x00, 0x00, 0x00)] := by decide

theorem witness_PopAfterPushMovesTheValue :
    State.reset.cfg.romEnd ≤ (State.reset.sp - 1).toNat ∧ State.reset.cfg.romEnd ≤ (State.reset.sp - 2).toNat ∧
    State.reset.sp - 1 ≠ 0xFF04 ∧ State.reset.sp - 2 ≠ 0xFF04 ∧
    ran .push_AF { State.reset with f := 0xBF } (fun t => ran .pop_DE t (fun u => u.stackPair .de)) =
      some (some 0x01B0) := by decide

theorem witness_ReturnAfterCallComesBack :
    State.reset.cfg.romEnd ≤ (State.reset.sp - 1).toNat ∧ State.reset.cfg.romEnd ≤ (State.reset.sp - 2).toNat ∧
    State.reset.sp - 1 ≠ 0xFF04 ∧ State.reset.sp - 2 ≠ 0xFF04 ∧
    ran (.call_nn 0x1234) State.reset (fun t => (t.pc, ran .ret t (fun u => (u.pc, u.sp)))) =
      some (0x1234, some (0x0103, 0xFFFE)) := by decide

/-- CALL C,nn at reset's FC = 1, and CALL NC,nn. -/
theorem witness_CallsAndRestartsPushTheReturnAddress :
    State.reset.cond .c = true ∧ State.reset.cond .nc = false := by decide

/-- 99 and 99, and 0 and 1: a carry and a borrow. -/
theorem witness_DaaMakesDecimalSumsAndDifferences :
    (99 < 100 ∧ 99 < 100 ∧ ({ State.reset with a := 0x99 } : State).a = bcd 99) ∧
    (0 < 100 ∧ 1 < 100 ∧ ({ State.reset with a := 0x00 } : State).a = bcd 0) := by decide

/-- The register form and the memory form of INC, the latter dropped in ROM with its flags computed (R211). -/
theorem test_inc_atHL_in_ROM_still_sets_flags :
    ran .inc_atHL { boot 0x0100 [] [(0x4000, 0xFF)] with h := 0x40, l := 0x00, f := 0x00 }
      (fun t => (t.readByte 0x4000, t.f)) = some (0xFF, 0xA0) := by decide

end Sys2Proof.Tests
end

section
/-! PROOFS. The statements of the family 00_scope: what an instruction costs, what a step records and keeps, and the
registers with their pair views. -/

namespace Sys2Proof.Machine

/-! ### What an instruction charges, by the bytes it was decoded from -/

/-- Decoding keeps the opcode byte, in every row of the base table. -/
theorem encode_decodeBase (sl : StopLen) (op b1 : Byte) (nn : Word) :
    ∃ rest : List Byte, encode (decodeBase sl op b1 nn) = op :: rest := by
  induction op using byte_cases with
  | h hi lo => cases hi <;> cases lo <;> exact ⟨_, rfl⟩

/-- The extended table decodes `op2` to the instruction of the two bytes `0xCB`, `op2`. -/
theorem encode_decodeCB (op2 : Byte) : encode (decodeCB op2) = [0xCB, op2] := by
  induction op2 using byte_cases with
  | h hi lo => cases hi <;> cases lo <;> rfl

theorem encode_decodeBytes (s : State) {op : Byte} (b1 b2 : Byte) (h : op ≠ 0xCB) :
    ∃ rest : List Byte, encode (s.decodeBytes op b1 b2) = op :: rest := by
  rw [State.decodeBytes, decodeInstr, if_neg h]
  exact encode_decodeBase _ _ _ _

theorem encode_decodeBytes_extended (s : State) (op2 b2 : Byte) :
    encode (s.decodeBytes 0xCB op2 b2) = [0xCB, op2] :=
  encode_decodeCB op2

theorem executed_delta (i : Instr) (s : State) : (executed i s).delta = chargeOf i s := rfl

/-- A base opcode charges the figure of its own cell (R615): the not-taken one only where it is a conditional
transfer whose condition fails (R616). -/
theorem chargeOf_base {i : Instr} {op : Byte} {rest : List Byte} (s : State) (hi : encode i = op :: rest)
    (hcb : op ≠ 0xCB) (hun : op ∉ unimplementedBytes) :
    chargeOf i s = if op ∈ conditionalOpcodes ∧ conditionField op s = false then
      (s.cfg.cycles.cell op).notTaken else (s.cfg.cycles.cell op).taken := by
  simp only [chargeOf, hi, hcb, hun, if_false]
  by_cases hop : op ∈ conditionalOpcodes
  · cases hc : conditionField op s <;> simp [hop, State.costIf, CycleTable.cost]
  · simp [hop, State.cost, State.costIf, CycleTable.cost]

/-- An extended opcode charges its own figure (R615). -/
theorem chargeOf_extended {i : Instr} {op2 : Byte} (s : State) (hi : encode i = [0xCB, op2]) :
    chargeOf i s = s.cfg.cycles.cbCost op2 := by
  have hun : (0xCB : Byte) ∉ unimplementedBytes := by decide
  simp only [chargeOf, hi, hun, if_false, if_true]
  rfl

/-! ### The default of `P_CYCLES` (R615, R616) -/

theorem cell_standard_conditional : ∀ op ∈ conditionalOpcodes, CycleTable.standard.cell op =
    if op.toNat < 0x40 then ⟨2, 3⟩ else if op.toNat % 8 = 2 then ⟨3, 4⟩ else if op.toNat % 8 = 4 then ⟨3, 6⟩
      else ⟨2, 5⟩ := by decide

theorem cell_standard_absent : ∀ op ∈ 0xCB :: unimplementedBytes, CycleTable.standard.cell op = ⟨0, 0⟩ := by
  decide

/-- Every other opcode has one figure, and it is positive. -/
theorem cell_standard_unconditional : ∀ op : Byte, op ∉ conditionalOpcodes → op ∉ 0xCB :: unimplementedBytes →
    0 < (CycleTable.standard.cell op).taken ∧
    CycleTable.standard.cell op = Cost.one (CycleTable.standard.cell op).taken := by decide

theorem cbCost_standard : ∀ op2 : Byte, CycleTable.standard.cbCost op2 =
    if op2.toNat % 8 = 6 then (if op2.toNat / 64 = 1 then 3 else 4) else 2 := by decide

/-! ### What a step records and keeps -/

/-- The record an instruction sets (R500, R501). -/
theorem executed_fault_record {i : Instr} {s : State} {r : FaultRecord} (hs : s.fault = none)
    (h : (executed i s).fault = some r) : r.kind = .unimplementedOpcode ∧ r.prefixed = false ∧ r.pc = s.pc := by
  rw [executed_fault] at h
  split at h
  · cases h
    exact ⟨rfl, rfl, rfl⟩
  · rw [hs] at h
    cases h

/-- What follows `exec` in a step records no fault and drops none. -/
theorem State.afterExec_keeps_fault (s : State) (i : Instr) (p : Bool) : (s.afterExec i p).fault = s.fault := by
  by_cases h : s.fault = none
  · rw [State.afterExec_ok i p h, State.completeStep_fault, State.eiDelay_fault]
  · rw [State.afterExec_fault i p h]

theorem State.afterExec_cfg (s : State) (i : Instr) (p : Bool) : (s.afterExec i p).cfg = s.cfg := by
  by_cases h : s.fault = none
  · rw [State.afterExec_ok i p h, State.completeStep_cfg, State.eiDelay_cfg]
  · rw [State.afterExec_fault i p h]

theorem State.haltedStep_cfg (s : State) : s.haltedStep.cfg = s.cfg := (s.charge haltedCycles).completeStep_cfg

theorem State.haltedStep_fault (s : State) : s.haltedStep.fault = s.fault :=
  (s.charge haltedCycles).completeStep_fault

/-! ### Registers and pairs -/

/-- Read after write of a register (R21). -/
theorem State.reg8_setReg8 (s : State) (r r' : Reg8) (v : Byte) :
    (s.setReg8 r v).reg8 r' = if r' = r then v else s.reg8 r' := by
  cases r <;> cases r' <;> rfl

/-- Writing a register changes none but the seven registers. -/
theorem State.setReg8_frame (s : State) (r : Reg8) (v : Byte) :
    { s.setReg8 r v with a := s.a, b := s.b, c := s.c, d := s.d, e := s.e, h := s.h, l := s.l } = s := by
  cases r <;> rfl

/-- Read after write of a pair: the bytes written are joined to the word again, and no two pairs share a field
(R22). -/
theorem State.pair_setPair (s : State) (p p' : Pair) (w : Word) :
    (s.setPair p w).pair p' = if p' = p then w else s.pair p' := by
  cases p <;> cases p' <;>
    simp [State.setPair, State.setHL, State.pair, State.bc, State.de, State.hl, joinBytes_hiByte_loByte]

/-- Writing a pair changes none but the fields of the pairs. -/
theorem State.setPair_frame (s : State) (p : Pair) (w : Word) :
    { s.setPair p w with b := s.b, c := s.c, d := s.d, e := s.e, h := s.h, l := s.l, sp := s.sp } = s := by
  cases p <;> rfl

end Sys2Proof.Machine

open Sys2Proof Sys2Proof.Machine

/-- Settles O12: every instruction completes (`exec_eq`), and its charge is read off the bytes it encodes to, which
are those it was decoded from. -/
theorem cyclesAreThoseOfTheTable : Obligations.CyclesAreThoseOfTheTable := by
  unfold Obligations.CyclesAreThoseOfTheTable
  intro conditional none'
  have hcond (op : Byte) : op ∈ conditional ↔ op ∈ conditionalOpcodes := List.Perm.mem_iff (by decide)
  have hnone (op : Byte) : op ∈ none' ↔ op ∈ 0xCB :: unimplementedBytes := Iff.rfl
  simp only [hcond, hnone]
  refine ⟨?_, ?_, cell_standard_conditional, ?_, cell_standard_absent, cbCost_standard⟩
  · intro op b1 b2 s hop
    obtain ⟨hcb, hun⟩ := not_or.mp (mt List.mem_cons.mpr hop)
    obtain ⟨rest, hi⟩ := encode_decodeBytes s b1 b2 hcb
    exact ⟨_, exec_eq _ s, (executed_delta _ s).trans (chargeOf_base s hi hcb hun)⟩
  · intro op2 b2 s
    have hi := encode_decodeBytes_extended s op2 b2
    exact ⟨_, exec_eq _ s, (executed_delta _ s).trans (chargeOf_extended s hi)⟩
  · intro op hop hop'
    exact ⟨_, cell_standard_unconditional op hop hop'⟩

/-- Settles O25: a Halted step records nothing, and in a Running one only the instruction does. -/
theorem noStepRecordsInvalidOperandIndex : Obligations.NoStepRecordsInvalidOperandIndex := by
  unfold Obligations.NoStepRecordsInvalidOperandIndex
  intro s t h
  rcases step_cases h with ⟨⟨hs, -, -⟩, rfl⟩ | ⟨⟨hs, -, -⟩, rfl⟩
  · refine ⟨s.haltedStep_cfg, fun r hr => ?_⟩
    rw [State.haltedStep_fault, hs] at hr
    cases hr
  · refine ⟨by rw [State.afterExec_cfg, executed_cfg], fun r hr => ?_⟩
    rw [State.afterExec_keeps_fault] at hr
    exact executed_fault_record hs hr

/-- Settles O29: read after write and frame of registers and pairs; the views are the definitions of R16 and R22. -/
theorem registersAndTheirPairViews : Obligations.RegistersAndTheirPairViews := by
  unfold Obligations.RegistersAndTheirPairViews
  intro s r r' p p' v w
  exact ⟨s.reg8_setReg8 r r' v, s.setReg8_frame r v, rfl, rfl, rfl, rfl, rfl, rfl, rfl, rfl,
    s.pair_setPair p p' w, s.setPair_frame p w, rfl, rfl, hiByte_toNat w, loByte_toNat w, rfl, rfl, rfl, rfl⟩

end

section
/-! PROOFS. The statements of the family 10_state: the invariant of the machine's data, the values of reset, the
flag byte, and what a step does to `cycles`, `ime` and `ime_pending`. -/

namespace Sys2Proof.Machine

/-! ### Which instruction the bytes at PC are -/

/-- The opcode byte stands first in the encoding of what is decoded from it. -/
theorem encode_decodeBytes_head (s : State) (op b1 b2 : Byte) :
    (encode (s.decodeBytes op b1 b2)).head? = some op := by
  by_cases hcb : op = 0xCB
  · subst hcb
    rw [encode_decodeBytes_extended]
    rfl
  · obtain ⟨rest, hi⟩ := encode_decodeBytes s b1 b2 hcb
    rw [hi]
    rfl

theorem State.fetchInstr_eq_ei (s : State) : s.fetchInstr = .ei ↔ s.readByte s.pc = 0xFB := by
  constructor
  · intro h
    have hop : (encode s.fetchInstr).head? = some (s.readByte s.pc) := encode_decodeBytes_head s _ _ _
    rw [h] at hop
    exact (Option.some.inj hop).symm
  · intro h
    rw [State.fetchInstr, h]
    rfl

theorem State.readByte_pc_of_fetchInstr_di {s : State} (h : s.fetchInstr = .di) : s.readByte s.pc = 0xF3 := by
  have hop : (encode s.fetchInstr).head? = some (s.readByte s.pc) := encode_decodeBytes_head s _ _ _
  rw [h] at hop
  exact (Option.some.inj hop).symm

/-! ### The state in which the interrupt check of a step runs, and the check's two outcomes -/

/-- Items 2 and 3 of a system step (R360): `delta` counted, and the Timer advanced by it. -/
def State.clocked (s : State) : State :=
  ({ s with cycles := s.cycles + s.delta } : State).advanceTimer (4 * s.delta)

theorem State.completeStep_eq_check (s : State) : s.completeStep = s.clocked.interruptCheck := rfl

@[simp] theorem State.clocked_sp (s : State) : s.clocked.sp = s.sp := by simp [State.clocked]
@[simp] theorem State.clocked_pc (s : State) : s.clocked.pc = s.pc := by simp [State.clocked]
@[simp] theorem State.clocked_stopped (s : State) : s.clocked.stopped = s.stopped := by simp [State.clocked]
@[simp] theorem State.clocked_ime (s : State) : s.clocked.ime = s.ime := by simp [State.clocked]
@[simp] theorem State.clocked_imePending (s : State) : s.clocked.imePending = s.imePending := by
  simp [State.clocked]
@[simp] theorem State.clocked_cycles (s : State) : s.clocked.cycles = s.cycles + s.delta := by
  simp [State.clocked]
@[simp] theorem State.clocked_fault (s : State) : s.clocked.fault = s.fault := by simp [State.clocked]
@[simp] theorem State.clocked_cfg (s : State) : s.clocked.cfg = s.cfg := by simp [State.clocked]

/-- In a stopped state the check does nothing (R515). -/
theorem State.interruptCheck_of_stopped {s : State} (h : s.stopped = true) : s.interruptCheck = s := by
  unfold State.interruptCheck
  cases s.cfg.dispatch with
  | absent => rfl
  | standard => simp [h]

/-- The end of a step without a fault enters a handler, or changes at most `halted` after the Timer's advance. -/
theorem State.completeStep_enters_or {s : State} (hf : s.fault = none) :
    (∃ b : Bool, s.completeStep = { s.clocked with halted := b }) ∨
    ∃ k : Nat, EntersInterrupt s.clocked k s.completeStep := by
  rw [State.completeStep_eq_check]
  cases hs : s.stopped with
  | true => exact .inl ⟨s.clocked.halted, State.interruptCheck_of_stopped (by simpa using hs)⟩
  | false =>
    rcases State.interruptCheck_enters (s := s.clocked) (by simpa using hf) (by simpa using hs) with
      h | ⟨-, h⟩ | h
    · exact .inl ⟨s.clocked.halted, h⟩
    · exact .inl ⟨false, h⟩
    · exact .inr ⟨_, h⟩

/-- With `ime` clear, or with no dispatcher, the end of a step enters nothing. -/
theorem State.completeStep_no_entry {s : State} (hf : s.fault = none)
    (hno : s.ime = false ∨ s.cfg.dispatch = .absent) :
    ∃ b : Bool, s.completeStep = { s.clocked with halted := b } := by
  rcases State.completeStep_enters_or hf with he | ⟨k, hd, -, hime, -⟩
  · exact he
  · rw [State.clocked_ime] at hime
    rw [State.clocked_cfg] at hd
    rw [hime, hd] at hno
    exact absurd hno (by decide)

/-- What an entry leaves in the fields that the statements name (R517, R518). -/
theorem EntersInterrupt.fields {v t : State} {k : Nat} (h : EntersInterrupt v k t) :
    t.ime = false ∧ t.cycles = v.cycles + 5 ∧ t.sp = v.sp - 2 ∧ t.pc = BitVec.ofNat 16 (0x0040 + 8 * k) := by
  obtain ⟨-, -, -, -, -, -, -, rfl⟩ := h
  simp [interruptVector]

/-! ### The two ends of a step -/

/-- What a step that completes hands on to items 2 to 4 of R360: the Halted cycle (R362), or the instruction with
the EI delay (R366). -/
def State.stepEffect (s : State) : State :=
  if s.halted then s.charge haltedCycles
  else (executed s.fetchInstr s).eiDelay s.fetchInstr s.imePending

theorem State.stepEffect_inHalt {s : State} (h : s.halted = true) : s.stepEffect = s.charge haltedCycles := by
  rw [State.stepEffect, if_pos h]

theorem State.stepEffect_running {s : State} (h : s.halted = false) :
    s.stepEffect = (executed s.fetchInstr s).eiDelay s.fetchInstr s.imePending := by
  simp [State.stepEffect, h]

@[simp] theorem State.stepEffect_cycles (s : State) : s.stepEffect.cycles = s.cycles := by
  unfold State.stepEffect
  split <;> simp

@[simp] theorem State.stepEffect_cfg (s : State) : s.stepEffect.cfg = s.cfg := by
  unfold State.stepEffect
  split <;> simp

theorem step_live {s t : State} (h : step s = .next t) : s.Live := by
  rcases step_cases h with ⟨⟨hf, hs, -⟩, -⟩ | ⟨⟨hf, hs, -⟩, -⟩ <;> exact ⟨hf, hs⟩

/-- A step ends in the fatal fault of its instruction, or it completes. -/
theorem step_faults_or_completes {s t : State} (h : step s = .next t) :
    (t.fault ≠ none ∧ s.Running ∧ t = executed s.fetchInstr s) ∨
    (t.fault = none ∧ s.stepEffect.fault = none ∧ t = s.stepEffect.completeStep) := by
  rcases step_cases h with ⟨⟨hf, -, hh⟩, rfl⟩ | ⟨hs, rfl⟩
  · right
    rw [State.stepEffect_inHalt hh]
    exact ⟨s.haltedStep_fault.trans hf, hf, rfl⟩
  · have ⟨_, _, hh⟩ := hs
    by_cases hf : (executed s.fetchInstr s).fault = none
    · right
      rw [State.stepEffect_running hh, State.eiDelay_fault, ← State.afterExec_ok _ _ hf]
      exact ⟨(State.afterExec_keeps_fault _ _ _).trans hf, hf, rfl⟩
    · left
      rw [State.afterExec_fault _ _ hf]
      exact ⟨hf, hs, rfl⟩

theorem step_cfg {s t : State} (h : step s = .next t) : t.cfg = s.cfg := by
  rcases step_faults_or_completes h with ⟨-, -, rfl⟩ | ⟨-, -, rfl⟩
  · exact executed_cfg _ s
  · rw [State.completeStep_cfg, State.stepEffect_cfg]

/-! ### The invariant (R24, R61, R530) -/

theorem State.haltedStep_wf {s : State} (h : s.wf = true) : s.haltedStep.wf = true :=
  State.completeStep_wf (s.charge haltedCycles) h

theorem State.afterExec_wf {s : State} (i : Instr) (p : Bool) (h : s.wf = true) :
    (s.afterExec i p).wf = true := by
  by_cases hf : s.fault = none
  · rw [State.afterExec_ok i p hf]
    exact State.completeStep_wf _ (s.eiDelay_wf i p h)
  · rw [State.afterExec_fault i p hf]
    exact h

theorem State.launch_wf (cfg : Config) {image : Memory} (h : image.wf = true) :
    (State.launch cfg image).wf = true := by
  have hf : decide ((0xB0 : Byte) = maskF 0xB0) = true := by decide
  simp only [State.wf, Bool.and_eq_true]
  exact ⟨⟨⟨h, hf⟩, rfl⟩, rfl⟩

/-! ### Who writes `ime` (R34) -/

/-- Of the instructions, only RETI sets `ime` itself (R332). -/
theorem executed_ime_set {i : Instr} {s : State} (h : (executed i s).ime = true) : s.ime = true ∨ i = .reti := by
  rw [executed_ime] at h
  split at h
  · cases h
  · next hop => exact .inr (sharedOp_reti hop)
  · exact .inl h

/-- Of the instructions, only DI clears `ime` (R383). -/
theorem executed_ime_cleared {i : Instr} {s : State} (h : (executed i s).ime = false) (hs : s.ime = true) :
    i = .di := by
  rw [executed_ime] at h
  split at h
  · next hop => exact sharedOp_di hop
  · cases h
  · rw [hs] at h
    cases h

/-- Before the interrupt check a step sets `ime` only by RETI or by an EI one step earlier (R366). -/
theorem State.stepEffect_ime_set {s : State} (h : s.stepEffect.ime = true) :
    s.ime = true ∨ (s.halted = false ∧ (s.fetchInstr = .reti ∨ s.imePending = true)) := by
  cases hh : s.halted with
  | true =>
    rw [State.stepEffect_inHalt hh] at h
    exact .inl h
  | false =>
    rw [State.stepEffect_running hh, State.eiDelay_ime] at h
    split at h
    · next hp => exact .inr ⟨rfl, .inr hp.1⟩
    · exact (executed_ime_set h).imp_right fun hi => ⟨rfl, .inl hi⟩

/-- Before the interrupt check a step clears `ime` only by DI. -/
theorem State.stepEffect_ime_cleared {s : State} (h : s.stepEffect.ime = false) (hs : s.ime = true) :
    s.halted = false ∧ s.fetchInstr = .di := by
  cases hh : s.halted with
  | true =>
    rw [State.stepEffect_inHalt hh, State.charge_ime, hs] at h
    cases h
  | false =>
    rw [State.stepEffect_running hh, State.eiDelay_ime] at h
    split at h
    · cases h
    · exact ⟨rfl, executed_ime_cleared h hs⟩

/-! ### EI and the step after it (R366, R384) -/

/-- What an EI step hands on where no EI is pending: PC is one further, and the request is noted. -/
theorem State.stepEffect_ei {s : State} (hs : s.halted = false) (hi : s.fetchInstr = .ei)
    (hp : s.imePending = false) :
    s.stepEffect = { s with pc := s.pc + 1, imePending := true, delta := s.cost 0xFB } := by
  rw [State.stepEffect_running hs, hi, hp, State.eiDelay_eq]
  rfl

/-- What follows an EI hands on `ime` set, unless it is a DI that cancels the request. -/
theorem State.stepEffect_after_ei {s : State} (hs : s.halted = false) (hp : s.imePending = true)
    (hdi : ¬ (s.cfg.diCancelsEi = true ∧ s.fetchInstr = .di)) : s.stepEffect.ime = true := by
  rw [State.stepEffect_running hs, State.eiDelay_eq, executed_cfg]
  exact if_pos ⟨hp, hdi⟩

/-- A running step leaves a request pending exactly if it is an EI. -/
theorem State.stepEffect_imePending {s : State} (hs : s.halted = false) :
    s.stepEffect.imePending = true ↔ s.fetchInstr = .ei := by
  rw [State.stepEffect_running hs, State.eiDelay_eq]
  by_cases hi : s.fetchInstr = .ei
  · simp [hi, sharedOp]
  · simp [hi]

/-- The step of an EI completes. -/
theorem step_ei_completes {s t : State} (hs : s.Running) (hi : s.fetchInstr = .ei) (h : step s = .next t) :
    t = s.stepEffect.completeStep := by
  rcases step_faults_or_completes h with ⟨hf, -, rfl⟩ | ⟨-, -, ht⟩
  · rw [hi] at hf
    exact absurd hs.1 hf
  · exact ht

/-- The step of an EI enters no interrupt where `ime` is clear or there is no dispatcher (R384, R515). -/
theorem step_ei {s t : State} (hs : s.Running) (hi : s.fetchInstr = .ei) (hp : s.imePending = false)
    (hno : s.ime = false ∨ s.cfg.dispatch = .absent) (h : step s = .next t) :
    t.pc = s.pc + 1 ∧ t.sp = s.sp ∧ t.ime = s.ime ∧ t.imePending = true ∧ t.Running ∧
      t.cycles = s.cycles + t.delta := by
  have ht := step_ei_completes hs hi h
  obtain ⟨hf, hst, hh⟩ := hs
  have heff := State.stepEffect_ei hh hi hp
  obtain ⟨b, e⟩ := State.completeStep_no_entry (s := s.stepEffect) (by rw [heff]; exact hf)
    (by rw [heff]; exact hno)
  have hhalted : t.halted = false := by
    rw [ht]
    exact State.completeStep_halted _ (by rw [heff]; exact hh)
  have hdelta : t.delta = s.cost 0xFB := by rw [ht, State.completeStep_delta, heff]
  rw [hdelta, State.Running, hhalted, ht, e, heff]
  simp [hf, hst]

/-- The step after an EI: `ime` is set when its instruction has run, and stays so unless that very step enters a
handler (R366, R515). -/
theorem step_after_ei {t u : State} (ht : t.Running) (hp : t.imePending = true) (h : step t = .next u)
    (hf : u.fault = none) (hdi : ¬ (t.cfg.diCancelsEi = true ∧ t.fetchInstr = .di)) :
    (u.ime = true ∧ (u.imePending = true ↔ t.fetchInstr = .ei)) ∨
    ∃ (v : State) (k : Nat), EntersInterrupt v k u ∧ v.cycles = t.cycles + u.delta ∧ v.cfg = t.cfg := by
  obtain ⟨-, -, hh⟩ := ht
  rcases step_faults_or_completes h with ⟨hf', -, -⟩ | ⟨-, heff, rfl⟩
  · exact absurd hf hf'
  rcases State.completeStep_enters_or heff with ⟨b, e⟩ | ⟨k, hk⟩
  · have hime : t.stepEffect.completeStep.ime = t.stepEffect.ime := by rw [e]; simp
    have hpend : t.stepEffect.completeStep.imePending = t.stepEffect.imePending := by rw [e]; simp
    rw [hime, hpend]
    exact .inl ⟨State.stepEffect_after_ei hh hp hdi, State.stepEffect_imePending hh⟩
  · exact .inr ⟨_, k, hk, by simp [State.completeStep_delta], by simp⟩

end Sys2Proof.Machine

open Sys2Proof Sys2Proof.Machine

/-- Settles O23: the Halted cycle keeps the invariant, and so do an instruction and what follows it. -/
theorem stepKeepsTheInvariant : Obligations.StepKeepsTheInvariant := by
  unfold Obligations.StepKeepsTheInvariant
  intro s t hwf h
  rcases step_cases h with ⟨-, rfl⟩ | ⟨-, rfl⟩
  · exact State.haltedStep_wf hwf
  · exact State.afterExec_wf _ _ (executed_wf _ s hwf)

/-- Settles O7: the EI step enters nothing, as `ime` is clear or there is no dispatcher; the next one has `ime` set
before its interrupt check. -/
theorem eiEnablesAfterTheNextInstruction : Obligations.EiEnablesAfterTheNextInstruction := by
  unfold Obligations.EiEnablesAfterTheNextInstruction
  intro s t hs hp hno hei h
  have hei' := step_ei hs (s.fetchInstr_eq_ei.mpr hei) hp hno h
  have ⟨_, _, _, hpend, hrun, _⟩ := hei'
  refine ⟨hei', fun u hu huf hdi => ?_⟩
  rw [← step_cfg h] at hdi ⊢
  rw [← t.fetchInstr_eq_ei]
  exact step_after_ei hrun hpend hu huf fun ⟨hc, hi⟩ => hdi ⟨hc, State.readByte_pc_of_fetchInstr_di hi⟩

/-- Settles O11: a fault ends the step before the counting, and `completeStep_cycles` says the rest. -/
theorem stepAddsItsDeltaToCycles : Obligations.StepAddsItsDeltaToCycles := by
  unfold Obligations.StepAddsItsDeltaToCycles
  intro s t h
  rcases step_faults_or_completes h with ⟨hf, -, rfl⟩ | ⟨hf, -, rfl⟩
  · have hc := executed_cycles s.fetchInstr s
    exact ⟨fun _ => hc, fun hf' => absurd hf' hf, hc.ge⟩
  · have hc := s.stepEffect.completeStep_cycles
    rw [State.stepEffect_cycles, State.stepEffect_cfg, ← State.completeStep_delta] at hc
    exact ⟨fun hf' => absurd hf hf', fun _ => hc, by omega⟩

/-- Settles O26: before its interrupt check a step writes `ime` only by RETI, DI and a pending EI, and the check
only clears it, by an entry. -/
theorem onlyEiDiRetiAndEntryWriteIme : Obligations.OnlyEiDiRetiAndEntryWriteIme := by
  unfold Obligations.OnlyEiDiRetiAndEntryWriteIme
  intro s t h
  obtain ⟨hf, hs⟩ := step_live h
  rcases step_faults_or_completes h with ⟨-, hrun, rfl⟩ | ⟨-, heff, rfl⟩
  · exact ⟨fun hi => (executed_ime_set hi).imp_right fun hr => ⟨hrun, .inl hr⟩,
      fun hi hi' => .inl ⟨hrun, executed_ime_cleared hi hi'⟩⟩
  · rcases State.completeStep_enters_or heff with ⟨b, e⟩ | ⟨k, hk⟩
    · have hime : s.stepEffect.completeStep.ime = s.stepEffect.ime := by rw [e]; simp
      rw [hime]
      refine ⟨fun hi => (State.stepEffect_ime_set hi).imp_right fun ⟨hh, hc⟩ => ⟨⟨hf, hs, hh⟩, hc⟩,
        fun hi hi' => .inl ?_⟩
      obtain ⟨hh, hdi⟩ := State.stepEffect_ime_cleared hi hi'
      exact ⟨⟨hf, hs, hh⟩, hdi⟩
    · obtain ⟨hime, hcyc, hsp, hpc⟩ := hk.fields
      have hv : s.stepEffect.clocked.cycles = s.cycles + s.stepEffect.completeStep.delta := by
        simp [State.completeStep_delta]
      refine ⟨fun hi => absurd (hime.symm.trans hi) (by decide),
        fun _ _ => .inr ⟨_, k, hk, by simp, hv, ?_, hsp, hpc⟩⟩
      rw [hcyc, hv]

/-- Settles O21: the fields of `State.launch`, and the four flags of its F. -/
theorem launchLeavesTheResetValues : Obligations.LaunchLeavesTheResetValues := by
  unfold Obligations.LaunchLeavesTheResetValues
  intro cfg image
  have hflags : (0xB0 : Byte).getLsbD 7 = true ∧ (0xB0 : Byte).getLsbD 6 = false ∧
      (0xB0 : Byte).getLsbD 5 = true ∧ (0xB0 : Byte).getLsbD 4 = true := by decide
  exact ⟨rfl, rfl, rfl, rfl, rfl, rfl, rfl, rfl, rfl, rfl, rfl, rfl, rfl, rfl, rfl, rfl, hflags⟩

/-- Settles O22: reset is the launch from the empty image, which is canonical. -/
theorem resetMeetsTheInvariant : Obligations.ResetMeetsTheInvariant := by
  unfold Obligations.ResetMeetsTheInvariant
  exact ⟨State.launch_wf Config.standard rfl, fun cfg _ h => State.launch_wf cfg h⟩

/-- Settles O30: the bits of the flag byte, and the conditions by their definition. -/
theorem flagByteLayoutAndConditions : Obligations.FlagByteLayoutAndConditions := by
  unfold Obligations.FlagByteLayoutAndConditions
  intro s z n h c
  obtain ⟨hz, hn, hh, hc, hlow⟩ := flagByte_bits z n h c
  exact ⟨hz, hn, hh, hc, hlow, rfl, rfl, rfl, rfl, rfl, rfl, rfl, rfl⟩

end

section
/-! PROOFS. The statements of the family 20_memory: what a bus write does, and that no step changes a byte of
ROM. -/

namespace Sys2Proof.Machine

/-! ### A bus write, by where the address lies (R68, R533) -/

theorem State.writeByte_below_romEnd {s : State} {x : Word} (v : Byte) (h : x.toNat < s.cfg.romEnd) :
    s.writeByte x v = s := if_pos h

theorem BusWrite.readByte_self {s t : State} {x : Word} {v : Byte} (hw : BusWrite s x v t)
    (h : s.cfg.romEnd ≤ x.toNat) : t.readByte x = if x = 0xFF04 then 0x00 else v :=
  (hw.1 x).trans (if_pos ⟨rfl, h⟩)

theorem BusWrite.readByte_other {s t : State} {x y : Word} {v : Byte} (hw : BusWrite s x v t) (h : y ≠ x) :
    t.readByte y = s.readByte y :=
  (hw.1 y).trans (if_neg fun hy => h hy.1)

theorem BusWrite.divAcc_above_rom {s t : State} {x : Word} {v : Byte} (hw : BusWrite s x v t)
    (h : s.cfg.romEnd ≤ x.toNat) : t.divAcc = if x = 0xFF04 then 0 else s.divAcc := by
  rw [hw.2]
  simp only [h, and_true]

/-! ### ROM along a step -/

/-- Before the interrupt check a step changes no byte of ROM: a Halted cycle writes nothing, and `executed_rom`
says it of the instruction. -/
theorem State.readByte_stepEffect_rom (s : State) {y : Word} (h : y.toNat < s.cfg.romEnd) :
    s.stepEffect.readByte y = s.readByte y := by
  cases hh : s.halted with
  | true => rw [State.stepEffect_inHalt hh, State.readByte_charge]
  | false => rw [State.stepEffect_running hh, State.readByte_eiDelay, executed_rom _ s h]

end Sys2Proof.Machine

open Sys2Proof Sys2Proof.Machine

/-- Settles O24: a step that faults ends with its instruction, and one that completes adds the Timer and the
interrupt check; neither part changes a byte of ROM below the Timer's registers. -/
theorem noStepChangesROM : Obligations.NoStepChangesROM := by
  unfold Obligations.NoStepChangesROM
  intro s t y h hrom hlow
  rcases step_faults_or_completes h with ⟨-, -, rfl⟩ | ⟨-, -, rfl⟩
  · exact executed_rom _ s hrom
  · have hrom' : y.toNat < s.stepEffect.cfg.romEnd := by rwa [State.stepEffect_cfg]
    rw [State.readByte_completeStep_rom _ hrom' hlow, s.readByte_stepEffect_rom hrom]

/-- Settles O28: `BusWrite` read at the address written and at any other. -/
theorem writeByteStoresResetsDivOrIsDropped : Obligations.WriteByteStoresResetsDivOrIsDropped := by
  unfold Obligations.WriteByteStoresResetsDivOrIsDropped
  intro s x v
  have hw := s.writeByte_busWrite x v
  exact ⟨State.writeByte_below_romEnd v, fun h => ⟨hw.readByte_self h, hw.divAcc_above_rom h⟩,
    fun _ hy => hw.readByte_other hy, s.writeByte_exceptMemory x v⟩

end

section
/-! PROOFS. The statements of the family 30_encoding: decoding and encoding undo each other, the first byte alone
decides the length, the row of 0xCB runs the extended table, and which bytes raise the fatal fault. -/

namespace Sys2Proof

/-! ### What is decoded encodes to the bytes it was decoded from -/

theorem lengthOf_pos (sl : StopLen) (op : Byte) : 0 < lengthOf sl op := by
  rcases lengthOf_cases sl op with h | h | h <;> omega

/-- A row of the base table encodes to the opcode and as many operand bytes as its length says (R100, R112); only
in that of STOP does the length depend on `P_STOP_LEN`. -/
theorem encode_decodeBase_bytes (sl : StopLen) (op b1 : Byte) (nn : Word) :
    encode (decodeBase sl op b1 nn) =
      if lengthOf sl op = 3 then [op, Machine.loByte nn, Machine.hiByte nn]
      else [op, b1].take (lengthOf sl op) := by
  induction op using byte_cases with
  | h hi lo =>
    cases hi with
    | x1 =>
      cases lo with
      | x0 => cases sl <;> rfl
      | _ => rfl
    | _ => cases lo <;> rfl

/-- What is decoded from three bytes encodes to as many of them as the first says (R101, R118). -/
theorem encode_decodeInstr (sl : StopLen) (op b1 b2 : Byte) :
    encode (decodeInstr sl op b1 b2) = [op, b1, b2].take (lengthOf sl op) := by
  unfold decodeInstr
  split
  · next hop => rw [Machine.encode_decodeCB, hop]; rfl
  · rw [encode_decodeBase_bytes, Machine.loByte_joinBytes, Machine.hiByte_joinBytes]
    rcases lengthOf_cases sl op with h | h | h <;> rw [h] <;> rfl

theorem length_encode_decodeInstr (sl : StopLen) (op b1 b2 : Byte) :
    (encode (decodeInstr sl op b1 b2)).length = lengthOf sl op := by
  rw [encode_decodeInstr]
  rcases lengthOf_cases sl op with h | h | h <;> rw [h] <;> rfl

/-! ### What is decoded is well formed -/

theorem decodeCB_wf (sl : StopLen) (op2 : Byte) : (decodeCB op2).wf sl = true := by
  induction op2 using byte_cases with
  | h hi lo => cases hi <;> cases lo <;> rfl

/-- In the base table only the row of 0xCB is no instruction (R114). -/
theorem decodeBase_wf (sl : StopLen) (op b1 : Byte) (nn : Word) :
    (decodeBase sl op b1 nn).wf sl = decide (op ≠ 0xCB) := by
  induction op using byte_cases with
  | h hi lo => cases sl <;> cases hi <;> cases lo <;> rfl

theorem decodeInstr_wf (sl : StopLen) (op b1 b2 : Byte) : (decodeInstr sl op b1 b2).wf sl = true := by
  unfold decodeInstr
  split
  · exact decodeCB_wf sl b1
  · next hop => rw [decodeBase_wf, decide_eq_true hop]

/-! ### What is encoded decodes to the instruction -/

theorem encode_ne_nil (i : Instr) : encode i ≠ [] := by
  cases i <;> exact List.cons_ne_nil _ _

/-- The bytes of a well-formed instruction are decoded to it, whatever bytes follow. -/
theorem decodeInstr_of_encode {sl : StopLen} {i : Instr} {op : Byte} {operands : List Byte}
    (hwf : i.wf sl = true) (he : encode i = op :: operands) (rest : List Byte) :
    decodeInstr sl op ((operands ++ rest).getD 0 0) ((operands ++ rest).getD 1 0) = i := by
  cases i with
  | prefixCB => cases hwf
  | stop b =>
    cases he
    match sl, b, hwf with
    | .one, none, _ | .two, some _, _ => rfl
  | ld_BC_nn nn | ld_DE_nn nn | ld_HL_nn nn | ld_SP_nn nn | ld_atnn_SP nn | ld_atnn_A nn | ld_A_atnn nn
  | jp_nn nn | jp_NZ_nn nn | jp_Z_nn nn | jp_NC_nn nn | jp_C_nn nn
  | call_nn nn | call_NZ_nn nn | call_Z_nn nn | call_NC_nn nn | call_C_nn nn =>
    cases he
    conv_rhs => rw [← Machine.joinBytes_hiByte_loByte nn]
    rfl
  | _ =>
    cases he
    simp only [List.cons_append, List.nil_append, List.getD_cons_zero]
    rfl

/-! ### The decoder on a list of bytes -/

/-- With enough bytes there the decoder reads an instruction, and leaves the bytes after its length. -/
theorem decode_of_le {sl : StopLen} {op : Byte} {tail : List Byte} (h : lengthOf sl op ≤ (op :: tail).length) :
    decode sl (op :: tail) =
      .ok (decodeInstr sl op (tail.getD 0 0) (tail.getD 1 0), (op :: tail).drop (lengthOf sl op)) := by
  obtain ⟨n, hn⟩ := Nat.exists_eq_succ_of_ne_zero (lengthOf_pos sl op).ne'
  rw [decode, if_neg (by simpa using h), hn]
  rfl

theorem decode_of_lt {sl : StopLen} {op : Byte} {tail : List Byte} (h : (op :: tail).length < lengthOf sl op) :
    decode sl (op :: tail) = .error (.truncated op (lengthOf sl op)) :=
  if_pos h

/-- Decoding undoes encoding: the operands of `i` are all it needs, and its length ends before `rest`. -/
theorem decode_encode_append {sl : StopLen} {i : Instr} (hwf : i.wf sl = true) (rest : List Byte) :
    decode sl (encode i ++ rest) = .ok (i, rest) := by
  cases he : encode i with
  | nil => exact absurd he (encode_ne_nil i)
  | cons op operands =>
    have hi := decodeInstr_of_encode hwf he rest
    have hlen : lengthOf sl op = (op :: operands).length := by
      rw [← he, ← hi, length_encode_decodeInstr]
    rw [List.cons_append, decode_of_le (by simp [hlen]), hi, hlen, ← List.cons_append, List.drop_left]

/-- Everything the decoder can answer: the instruction of the first bytes, where there are enough. -/
theorem decode_ok_cases {sl : StopLen} {bytes rest : List Byte} {i : Instr} (h : decode sl bytes = .ok (i, rest)) :
    ∃ (op : Byte) (tail : List Byte), bytes = op :: tail ∧ lengthOf sl op ≤ bytes.length ∧
      i = decodeInstr sl op (tail.getD 0 0) (tail.getD 1 0) ∧ rest = bytes.drop (lengthOf sl op) := by
  cases bytes with
  | nil => cases h
  | cons op tail =>
    by_cases hlt : (op :: tail).length < lengthOf sl op
    · rw [decode_of_lt hlt] at h
      cases h
    · rw [decode_of_le (not_lt.mp hlt)] at h
      cases h
      exact ⟨op, tail, rfl, not_lt.mp hlt, rfl, rfl⟩

/-- Encoding undoes decoding: what is decoded from enough bytes encodes to the first of them. -/
theorem encode_decodeInstr_getD {sl : StopLen} {op : Byte} {tail : List Byte}
    (h : lengthOf sl op ≤ (op :: tail).length) :
    encode (decodeInstr sl op (tail.getD 0 0) (tail.getD 1 0)) = (op :: tail).take (lengthOf sl op) := by
  rw [encode_decodeInstr]
  rcases lengthOf_cases sl op with hn | hn | hn <;> rw [hn] at h ⊢
  · rfl
  · match tail, h with
    | _ :: _, _ => rfl
  · match tail, h with
    | _ :: _ :: _, _ => rfl

end Sys2Proof

namespace Sys2Proof.Machine

/-! ### The row of 0xCB (R103, R111, R363) -/

/-- The fields of `op2` name the shared operation of the extended instruction that `op2` decodes to. -/
theorem sharedOp_run_decodeCB (op2 : Byte) (s : State) : (sharedOp (decodeCB op2)).run s = runExtended op2 s := by
  induction op2 using byte_cases with
  | h hi lo => cases hi <;> cases lo <;> rfl

theorem executed_decodeCB (op2 : Byte) (s : State) : executed (decodeCB op2) s = executed (.prefixCB op2) s := by
  have hcharge : chargeOf (decodeCB op2) s = chargeOf (.prefixCB op2) s := by
    rw [chargeOf_extended s (encode_decodeCB op2), chargeOf_extended (i := .prefixCB op2) s rfl]
  rw [executed, hcharge, sharedOp_run_decodeCB]
  rfl

/-! ### The bytes with no table entry (R113, R500, R501) -/

theorem sharedOp_decodeBytes_unimplemented (s : State) {op : Byte} (b1 b2 : Byte) (h : op ∈ unimplementedBytes) :
    sharedOp (s.decodeBytes op b1 b2) = .raiseUnimplemented op := by
  fin_cases h <;> rfl

/-- Only the eleven bytes are encodings of an instruction that raises the fatal fault. -/
theorem encode_of_raiseUnimplemented {i : Instr} {op : Byte} (h : sharedOp i = .raiseUnimplemented op) :
    encode i = [op] ∧ op ∈ unimplementedBytes := by
  cases i <;> cases h <;> exact ⟨rfl, by decide⟩

/-- Raising the fatal fault sets the record, and charges nothing (R500). -/
theorem executed_of_raiseUnimplemented {i : Instr} {op : Byte} (s : State)
    (h : sharedOp i = .raiseUnimplemented op) :
    executed i s = { s with fault := some ⟨.unimplementedOpcode, op, false, s.pc⟩ } := by
  obtain ⟨he, hop⟩ := encode_of_raiseUnimplemented h
  have hcharge : chargeOf i s = s.delta := by simp [chargeOf, he, hop]
  rw [executed, h, hcharge]
  rfl

/-- At any other byte the instruction fetched records no fault: one that did would encode to one of the eleven. -/
theorem State.executed_fetchInstr_no_fault {s : State} (hs : s.fault = none)
    (hop : s.readByte s.pc ∉ unimplementedBytes) : (executed s.fetchInstr s).fault = none := by
  rw [executed_fault]
  split
  · next op h =>
    obtain ⟨he, hmem⟩ := encode_of_raiseUnimplemented h
    have hhead : (encode s.fetchInstr).head? = some (s.readByte s.pc) := encode_decodeBytes_head s _ _ _
    rw [he] at hhead
    cases hhead
    exact absurd hmem hop
  · exact hs

end Sys2Proof.Machine

open Sys2Proof Sys2Proof.Machine

/-- Settles O2: the operand bytes of an instruction decode to it (`decodeInstr_of_encode`), and the length of its
first byte is that of its encoding. -/
theorem decodeOfEncodeIsTheInstruction : Obligations.DecodeOfEncodeIsTheInstruction := by
  unfold Obligations.DecodeOfEncodeIsTheInstruction
  intro stopLen i rest hwf
  exact decode_encode_append hwf rest

/-- Settles O3: what is decoded encodes to as many bytes as were read, and the rest is what follows them. -/
theorem encodeOfDecodeIsTheBytes : Obligations.EncodeOfDecodeIsTheBytes := by
  unfold Obligations.EncodeOfDecodeIsTheBytes
  intro stopLen bytes rest i h
  obtain ⟨op, tail, rfl, hle, rfl, rfl⟩ := decode_ok_cases h
  exact ⟨decodeInstr_wf _ _ _ _, by rw [encode_decodeInstr_getD hle, List.take_append_drop]⟩

/-- Settles O4: the length listed is `lengthOf`, by which the decoder decides. -/
theorem lengthIsDecidedByTheFirstByte : Obligations.LengthIsDecidedByTheFirstByte := by
  unfold Obligations.LengthIsDecidedByTheFirstByte
  intro stopLen op rest n
  have hn : n = lengthOf stopLen op := rfl
  rw [hn]
  exact ⟨fun hle => ⟨_, decode_of_le hle, length_encode_decodeInstr _ _ _ _⟩, decode_of_lt⟩

/-- Settles O5: the fields of `op2` name the operation it decodes to, and both charge its figure. -/
theorem prefixRunsTheExtendedTable : Obligations.PrefixRunsTheExtendedTable := by
  unfold Obligations.PrefixRunsTheExtendedTable
  refine ⟨fun op2 b2 s => ⟨_, exec_eq _ s, ?_⟩, fun b2 s => rfl⟩
  rw [exec_eq, ← executed_decodeCB]
  rfl

/-- Settles O10: the eleven bytes run `raiseUnimplemented`, and what runs it encodes to one of them. -/
theorem elevenBytesRaiseTheFatalFault : Obligations.ElevenBytesRaiseTheFatalFault := by
  unfold Obligations.ElevenBytesRaiseTheFatalFault
  refine ⟨fun op hop b1 b2 s => ⟨?_, fun hs hpc => ?_⟩, fun s hs hop => ⟨_, step_running hs, ?_⟩⟩
  · rw [exec_eq, executed_of_raiseUnimplemented s (sharedOp_decodeBytes_unimplemented s b1 b2 hop)]
  · subst hpc
    have h := executed_of_raiseUnimplemented s (sharedOp_decodeBytes_unimplemented s
      (s.readByte (s.pc + 1)) (s.readByte (s.pc + 2)) hop)
    rw [step_running hs, State.fetchInstr, h, State.afterExec_fault _ _ (by simp)]
  · rw [State.afterExec_keeps_fault, State.executed_fetchInstr_no_fault hs.1 hop]

/-- Settles O1: the decoder run on each word. -/
theorem wordsOfTheSpecDecode : Obligations.WordsOfTheSpecDecode := by
  unfold Obligations.WordsOfTheSpecDecode
  decide

end

section
/-! PROOFS. The statements of the family 40_alu8: the eight ALU operations, INC and DEC of a byte, DAA, and the
instructions on A and on the carry alone. -/

namespace Sys2Proof.Machine

/-! ### What an ALU result leaves of a state -/

/-- A is written or not, all four flags are, PC is past the instruction, and its cost is charged (R200). -/
def State.afterAlu (s : State) (writesA : Bool) (r : AluOut) (len : Word) (cost : Nat) : State :=
  { s with
      a := if writesA then r.res else s.a
      f := flagByte r.z r.n r.h r.c
      pc := s.pc + len
      delta := cost }

@[simp] theorem State.afterAlu_a (s : State) (w : Bool) (r : AluOut) (len : Word) (cost : Nat) :
    (s.afterAlu w r len cost).a = if w then r.res else s.a := rfl
@[simp] theorem State.afterAlu_fz (s : State) (w : Bool) (r : AluOut) (len : Word) (cost : Nat) :
    (s.afterAlu w r len cost).fz = r.z := (flagByte_bits r.z r.n r.h r.c).1
@[simp] theorem State.afterAlu_fn (s : State) (w : Bool) (r : AluOut) (len : Word) (cost : Nat) :
    (s.afterAlu w r len cost).fn = r.n := (flagByte_bits r.z r.n r.h r.c).2.1
@[simp] theorem State.afterAlu_fh (s : State) (w : Bool) (r : AluOut) (len : Word) (cost : Nat) :
    (s.afterAlu w r len cost).fh = r.h := (flagByte_bits r.z r.n r.h r.c).2.2.1
@[simp] theorem State.afterAlu_fc (s : State) (w : Bool) (r : AluOut) (len : Word) (cost : Nat) :
    (s.afterAlu w r len cost).fc = r.c := (flagByte_bits r.z r.n r.h r.c).2.2.2.1

/-! ### The eight ALU operations, by the fields of their opcodes (R102, R110) -/

theorem cost_standard_alu (op : AluOp) (o : Operand8) :
    CycleTable.standard.cost (0x80#8 ||| op.code <<< 3 ||| o.code) true = o.cost 1 2 := by
  cases o with
  | reg r => cases op <;> cases r <;> rfl
  | atHL => cases op <;> rfl

theorem cost_standard_aluImm (op : AluOp) : CycleTable.standard.cost (0xC6#8 ||| op.code <<< 3) true = 2 := by
  cases op <;> rfl

/-- The forms `r` and `(HL)` of an ALU operation (R200 to R208). -/
theorem exec_alu (op : AluOp) (o : Operand8) (b1 b2 : Byte) (s : State) :
    exec (s.decodeBytes (0x80#8 ||| op.code <<< 3 ||| o.code) b1 b2) s =
      .next (s.afterAlu op.writesA (op.eval s.a (s.src8 o) s.fc) 1
        (s.ruleCost (0x80#8 ||| op.code <<< 3 ||| o.code) (o.cost 1 2))) := by
  rw [State.ruleCost_eq (cost_standard_alu op o)]
  cases o with
  | reg r => cases op <;> cases r <;> rfl
  | atHL => cases op <;> rfl

/-- The form `n` of an ALU operation (R200 to R208). -/
theorem exec_aluImm (op : AluOp) (n b2 : Byte) (s : State) :
    exec (s.decodeBytes (0xC6#8 ||| op.code <<< 3) n b2) s =
      .next (s.afterAlu op.writesA (op.eval s.a n s.fc) 2 (s.ruleCost (0xC6#8 ||| op.code <<< 3) 2)) := by
  rw [State.ruleCost_eq (cost_standard_aluImm op)]
  cases op <;> rfl

/-! ### Sums and differences in arithmetic (R200) -/

theorem ofNat8_eq_zero_iff (n : Nat) : BitVec.ofNat 8 n = 0 ↔ n % 256 = 0 := by
  rw [← BitVec.toNat_inj]
  simp

theorem ofInt8_eq_zero_iff (x : Int) : BitVec.ofInt 8 x = 0 ↔ x % 256 = 0 := by
  rw [← BitVec.toNat_inj]
  simp
  omega

theorem ofInt8_emod (x : Int) : BitVec.ofInt 8 (x % 256) = BitVec.ofInt 8 x := by
  rw [← BitVec.toNat_inj]
  simp

@[simp] theorem add8_n (a b : Byte) (cin : Bool) : (add8 a b cin).n = false := rfl
@[simp] theorem sub8_n (a b : Byte) (cin : Bool) : (sub8 a b cin).n = true := rfl

theorem add8_eq (a b : Byte) (cin : Bool) : add8 a b cin =
    { res := BitVec.ofNat 8 (a.toNat + b.toNat + cin.toNat)
      z := decide ((a.toNat + b.toNat + cin.toNat) % 256 = 0)
      n := false
      h := decide (a.toNat % 16 + b.toNat % 16 + cin.toNat > 15)
      c := decide (a.toNat + b.toNat + cin.toNat > 255) } := by
  simp only [add8, ofNat8_eq_zero_iff]

theorem sub8_eq (a b : Byte) (cin : Bool) : sub8 a b cin =
    { res := BitVec.ofInt 8 ((a.toNat : Int) - b.toNat - cin.toNat)
      z := decide (((a.toNat : Int) - b.toNat - cin.toNat) % 256 = 0)
      n := true
      h := decide (a.toNat % 16 < b.toNat % 16 + cin.toNat)
      c := decide (b.toNat + cin.toNat > a.toNat) } := by
  simp only [sub8, ofInt8_eq_zero_iff]

/-! ### INC and DEC of a byte (R210 to R213) -/

theorem cost_standard_incOperand (o : Operand8) :
    CycleTable.standard.cost (0x04#8 ||| o.code <<< 3) true = o.cost 1 3 := by
  cases o with
  | reg r => cases r <;> rfl
  | atHL => rfl

theorem cost_standard_decOperand (o : Operand8) :
    CycleTable.standard.cost (0x05#8 ||| o.code <<< 3) true = o.cost 1 3 := by
  cases o with
  | reg r => cases r <;> rfl
  | atHL => rfl

theorem exec_incOperand (o : Operand8) (b1 b2 : Byte) (s : State) :
    exec (s.decodeBytes (0x04#8 ||| o.code <<< 3) b1 b2) s =
      .next ((incOperand o s).charge (s.ruleCost (0x04#8 ||| o.code <<< 3) (o.cost 1 3))) := by
  rw [State.ruleCost_eq (cost_standard_incOperand o)]
  cases o with
  | reg r => cases r <;> rfl
  | atHL => rfl

theorem exec_decOperand (o : Operand8) (b1 b2 : Byte) (s : State) :
    exec (s.decodeBytes (0x05#8 ||| o.code <<< 3) b1 b2) s =
      .next ((decOperand o s).charge (s.ruleCost (0x05#8 ||| o.code <<< 3) (o.cost 1 3))) := by
  rw [State.ruleCost_eq (cost_standard_decOperand o)]
  cases o with
  | reg r => cases r <;> rfl
  | atHL => rfl

/-- The exact sum is narrowed, so 0xFF alone gives zero (R210). -/
theorem inc8_eq (v : Byte) (fc : Bool) : inc8 v fc =
    { res := v + 1, z := decide (v = 0xFF), n := false, h := decide (v.toNat % 16 = 15), c := fc } := by
  have hres : BitVec.ofNat 8 (v.toNat + 1) = v + 1 := by
    apply BitVec.eq_of_toNat_eq
    simp
  have hzero : v + 1 = 0 ↔ v = 0xFF := by bv_omega
  simp only [inc8, hres, hzero]

/-- The exact difference is narrowed, and 0x01 alone gives zero (R212). -/
theorem dec8_eq (v : Byte) (fc : Bool) : dec8 v fc =
    { res := v - 1, z := decide (v = 0x01), n := true, h := decide (v.toNat % 16 = 0), c := fc } := by
  have hres : BitVec.ofInt 8 ((v.toNat : Int) - 1) = v - 1 := by
    apply BitVec.eq_of_toNat_eq
    simp
    omega
  have hzero : v - 1 = 0 ↔ v = 0x01 := by bv_omega
  simp only [dec8, hres, hzero]

/-! ### An instruction that writes its operand and all flags (R16) -/

/-- Fetching, flags and charge touch neither memory nor `div_acc`, so a memory operand is one bus write at HL. -/
theorem writesOperand_dst8 (s : State) (o : Operand8) (v : Byte) (len cost : Nat) (z n h c : Bool) :
    WritesOperand s o v
      (fun u => { u with f := flagByte z n h c, pc := s.pc + BitVec.ofNat 16 len, delta := cost })
      ((((s.fetched len).dst8 o v).setFlags z n h c).charge cost) := by
  cases o with
  | reg r => cases r <;> rfl
  | atHL =>
    refine ⟨(s.fetched len).writeByte_busWrite s.hl v, ?_⟩
    exact congrArg (fun u => (u.setFlags z n h c).charge cost) ((s.fetched len).writeByte_exceptMemory s.hl v)

/-- What such an instruction, with a register for its operand, leaves for the next one to read. -/
theorem WritesOperand.reg_reads {s t : State} {r : Reg8} {v : Byte} {z n h c : Bool} {pc : Word} {cost : Nat}
    (hw : WritesOperand s (.reg r) v (fun u => { u with f := flagByte z n h c, pc := pc, delta := cost }) t) :
    t.reg8 r = v ∧ t.fc = c ∧ t.pc = pc ∧ t.cfg = s.cfg := by
  obtain ⟨-, -, -, hfc, -⟩ := flagByte_bits z n h c
  rw [show t = _ from hw]
  cases r <;> exact ⟨rfl, hfc, rfl, rfl⟩

/-- The old value written back to the register: the first of the two writes leaves no trace (R214). -/
theorem WritesOperand.reg_restored {s t u : State} {r : Reg8} {v f f' : Byte} {pc pc' : Word} {cost cost' : Nat}
    (hw : WritesOperand s (.reg r) v (fun u => { u with f := f, pc := pc, delta := cost }) t)
    (hw' : WritesOperand t (.reg r) (s.reg8 r) (fun u => { u with f := f', pc := pc', delta := cost' }) u) :
    u = { s with f := f', pc := pc', delta := cost' } := by
  rw [show u = _ from hw', show t = _ from hw]
  cases r <;> rfl

/-- A figure depends on the parameters alone. -/
theorem State.ruleCost_congr {s t : State} (h : t.cfg = s.cfg) (op : Byte) (n : Nat) :
    t.ruleCost op n = s.ruleCost op n := by
  rw [State.ruleCost, h]
  rfl

/-! ### DAA over the integers (R230) -/

/-- The correction of the low digit: after a subtraction FH alone decides. -/
def daaLow (a : Int) (fn fh : Bool) : Int :=
  if fn = true then (if fh = true then 0x06 else 0) else (if fh = true ∨ a % 16 > 9 then 0x06 else 0)

/-- The correction of the high digit: after a subtraction FC alone decides. -/
def daaHigh (a : Int) (fn fc : Bool) : Int :=
  if fn = true then (if fc = true then 0x60 else 0) else (if fc = true ∨ a > 0x99 then 0x60 else 0)

/-- The corrected A. -/
def daaResult (a : Int) (fn fh fc : Bool) : Int :=
  (if fn = true then a - (daaLow a fn fh + daaHigh a fn fc) else a + (daaLow a fn fh + daaHigh a fn fc)) % 256

theorem daa8_eq (a : Byte) (fn fh fc : Bool) : daa8 a fn fh fc =
    { res := BitVec.ofInt 8 (daaResult a.toNat fn fh fc)
      z := decide (daaResult a.toNat fn fh fc = 0)
      n := fn
      h := false
      c := decide (daaHigh a.toNat fn fc = 0x60) } := by
  cases fn with
  | true =>
    have hcarry : daaHigh a.toNat true fc = 0x60 ↔ fc = true := by simp [daaHigh]
    simp only [daaResult, if_true, ofInt8_emod, ← ofInt8_eq_zero_iff, hcarry, Bool.decide_eq_true]
    rfl
  | false =>
    have hlow : daaLow a.toNat false fh =
        ((if fh || decide (a.toNat % 16 > 0x09) then 0x06 else 0 : Nat) : Int) := by
      simp only [daaLow, Bool.false_eq_true, if_false, Bool.or_eq_true, decide_eq_true_eq, Nat.cast_ite]
      norm_cast
    have hhigh : daaHigh a.toNat false fc =
        ((if fc || decide (a.toNat > 0x99) then 0x60 else 0 : Nat) : Int) := by
      simp only [daaHigh, Bool.false_eq_true, if_false, Bool.or_eq_true, decide_eq_true_eq, Nat.cast_ite]
      norm_cast
    have hcarry : decide (daaHigh a.toNat false fc = 0x60) = (fc || decide (a.toNat > 0x99)) := by
      rw [hhigh]
      cases fc || decide (a.toNat > 0x99) <;> rfl
    rw [hcarry]
    simp only [daaResult, Bool.false_eq_true, if_false, ofInt8_emod, ← ofInt8_eq_zero_iff, hlow, hhigh,
      ← Nat.cast_add, BitVec.ofInt_natCast]
    rfl

theorem exec_daa (b1 b2 : Byte) (s : State) : exec (s.decodeBytes 0x27 b1 b2) s =
    .next (s.afterAlu true (daa8 s.a s.fn s.fh s.fc) 1 (s.ruleCost 0x27 1)) := by
  rw [State.ruleCost_eq (op := 0x27) (n := 1) rfl]
  rfl

/-! ### Packed BCD -/

theorem bcd_toNat {x : Nat} (h : x < 100) : (bcd x).toNat = 16 * (x / 10) + x % 10 := by
  rw [bcd, BitVec.toNat_ofNat]
  omega

/-- The digits of a sum modulo 100: `t` and `u` are the sums of the tens and of the units, and each digit that
carries is brought back by its part of the correction. -/
theorem decimal_sum_corrected {t u z : Int} (hu0 : 0 ≤ u) (hu : u ≤ 18) (hz0 : 0 ≤ z) (hz : z < 100)
    (h : z = 10 * t + u ∨ z = 10 * t + u - 100) :
    (16 * t + u + ((if 10 ≤ u then 6 else 0) + (if 100 ≤ 10 * t + u then 0x60 else 0))) % 256 =
      16 * (z / 10) + z % 10 := by
  have htens : z / 10 = t + (if 10 ≤ u then 1 else 0) - (if 100 ≤ 10 * t + u then 10 else 0) := by
    split_ifs <;> omega
  have hunits : z % 10 = u - (if 10 ≤ u then 10 else 0) := by split_ifs <;> omega
  split_ifs at * <;> omega

/-- The same of a difference: `t` and `u` are the differences of the tens and of the units. -/
theorem decimal_difference_corrected {t u z : Int} (hu0 : -9 ≤ u) (hu : u ≤ 9) (hz0 : 0 ≤ z) (hz : z < 100)
    (h : z = 10 * t + u ∨ z = 10 * t + u + 100) :
    (16 * t + u - ((if u < 0 then 6 else 0) + (if 10 * t + u < 0 then 0x60 else 0))) % 256 =
      16 * (z / 10) + z % 10 := by
  have htens : z / 10 = t - (if u < 0 then 1 else 0) + (if 10 * t + u < 0 then 10 else 0) := by
    split_ifs <;> omega
  have hunits : z % 10 = u + (if u < 0 then 10 else 0) := by split_ifs <;> omega
  split_ifs at * <;> omega

/-- A correction that ends in the digits of `z`, with a high part exactly where `p` holds. -/
theorem daa8_eq_bcd {a : Byte} {fn fh fc : Bool} {z : Nat} {p : Prop} [Decidable p]
    (hhigh : daaHigh a.toNat fn fc = if p then 0x60 else 0)
    (hres : daaResult a.toNat fn fh fc = 16 * (z / 10) + z % 10) :
    daa8 a fn fh fc = { res := bcd z, z := decide (z = 0), n := fn, h := false, c := decide p } := by
  have hz : (16 * (z / 10) + z % 10 : Int) = 0 ↔ z = 0 := by omega
  have hp : (if p then 0x60 else 0 : Int) = 0x60 ↔ p := by simp
  rw [daa8_eq, hres, hhigh, decide_eq_decide.mpr hz, decide_eq_decide.mpr hp, bcd, ← BitVec.ofInt_natCast]
  push_cast
  rfl

/-- DAA after an addition with the sums `t` of the tens and `u` of the units: the two conditions of R230 are the
decimal carries. -/
theorem daa8_decimal_sum {a : Byte} {fh fc : Bool} {t u : Int} {z : Nat} (ht0 : 0 ≤ t) (ht : t ≤ 18)
    (hu0 : 0 ≤ u) (hu : u ≤ 18) (ha : (a.toNat : Int) = (16 * t + u) % 256) (hh : fh = true ↔ u > 15)
    (hc : fc = true ↔ 16 * t + u > 255) (hz : z < 100)
    (hzt : (z : Int) = 10 * t + u ∨ (z : Int) = 10 * t + u - 100) :
    daa8 a false fh fc =
      { res := bcd z, z := decide (z = 0), n := false, h := false, c := decide (100 ≤ 10 * t + u) } := by
  have hlow : daaLow a.toNat false fh = if 10 ≤ u then 6 else 0 :=
    (if_neg Bool.false_ne_true).trans (if_congr (by rw [ha, hh]; omega) rfl rfl)
  have hhigh : daaHigh a.toNat false fc = if 100 ≤ 10 * t + u then 0x60 else 0 :=
    (if_neg Bool.false_ne_true).trans (if_congr (by rw [ha, hc]; omega) rfl rfl)
  refine daa8_eq_bcd hhigh ?_
  rw [daaResult, hlow, hhigh, ha, if_neg Bool.false_ne_true, Int.emod_add_emod]
  exact decimal_sum_corrected hu0 hu (by omega) (by omega) hzt

/-- DAA after a subtraction with the differences `t` of the tens and `u` of the units: FH and FC are the decimal
borrows. -/
theorem daa8_decimal_difference {a : Byte} {fh fc : Bool} {t u : Int} {z : Nat}
    (hu0 : -9 ≤ u) (hu : u ≤ 9) (ha : (a.toNat : Int) = (16 * t + u) % 256) (hh : fh = true ↔ u < 0)
    (hc : fc = true ↔ 16 * t + u < 0) (hz : z < 100)
    (hzt : (z : Int) = 10 * t + u ∨ (z : Int) = 10 * t + u + 100) :
    daa8 a true fh fc =
      { res := bcd z, z := decide (z = 0), n := true, h := false, c := decide (10 * t + u < 0) } := by
  have hlow : daaLow a.toNat true fh = if u < 0 then 6 else 0 :=
    (if_pos rfl).trans (if_congr hh rfl rfl)
  have hhigh : daaHigh a.toNat true fc = if 10 * t + u < 0 then 0x60 else 0 :=
    (if_pos rfl).trans (if_congr (by rw [hc]; omega) rfl rfl)
  refine daa8_eq_bcd hhigh ?_
  rw [daaResult, hlow, hhigh, ha, if_pos rfl, Int.emod_sub_emod]
  exact decimal_difference_corrected hu0 hu (by omega) (by omega) hzt

/-- ADD and then DAA on two packed numbers (R201, R230). -/
theorem daa8_add8_bcd {x y : Nat} (hx : x < 100) (hy : y < 100) :
    daa8 (add8 (bcd x) (bcd y) false).res false (add8 (bcd x) (bcd y) false).h (add8 (bcd x) (bcd y) false).c =
      { res := bcd ((x + y) % 100), z := decide ((x + y) % 100 = 0), n := false, h := false,
        c := decide (100 ≤ x + y) } := by
  have ha : ((add8 (bcd x) (bcd y) false).res.toNat : Int) =
      (16 * (x / 10 + y / 10) + (x % 10 + y % 10)) % 256 := by
    simp only [add8, bcd_toNat hx, bcd_toNat hy, BitVec.toNat_ofNat, Bool.toNat_false]
    omega
  have hh : (add8 (bcd x) (bcd y) false).h = true ↔ (x % 10 + y % 10 : Int) > 15 := by
    simp only [add8, bcd_toNat hx, bcd_toNat hy, Bool.toNat_false, decide_eq_true_eq]
    omega
  have hc : (add8 (bcd x) (bcd y) false).c = true ↔
      (16 * (x / 10 + y / 10) + (x % 10 + y % 10) : Int) > 255 := by
    simp only [add8, bcd_toNat hx, bcd_toNat hy, Bool.toNat_false, decide_eq_true_eq]
    omega
  have hcarry : (100 : Int) ≤ 10 * (x / 10 + y / 10) + (x % 10 + y % 10) ↔ 100 ≤ x + y := by omega
  rw [daa8_decimal_sum (by omega) (by omega) (by omega) (by omega) ha hh hc (z := (x + y) % 100) (by omega)
    (by omega), decide_eq_decide.mpr hcarry]

/-- SUB and then DAA on two packed numbers (R203, R230). -/
theorem daa8_sub8_bcd {x y : Nat} (hx : x < 100) (hy : y < 100) :
    daa8 (sub8 (bcd x) (bcd y) false).res true (sub8 (bcd x) (bcd y) false).h (sub8 (bcd x) (bcd y) false).c =
      { res := bcd ((100 + x - y) % 100), z := decide ((100 + x - y) % 100 = 0), n := true, h := false,
        c := decide (x < y) } := by
  have ha : ((sub8 (bcd x) (bcd y) false).res.toNat : Int) =
      (16 * (x / 10 - y / 10) + (x % 10 - y % 10)) % 256 := by
    simp only [sub8, bcd_toNat hx, bcd_toNat hy, BitVec.toNat_ofInt, Bool.toNat_false]
    omega
  have hh : (sub8 (bcd x) (bcd y) false).h = true ↔ (x % 10 - y % 10 : Int) < 0 := by
    simp only [sub8, bcd_toNat hx, bcd_toNat hy, Bool.toNat_false, decide_eq_true_eq]
    omega
  have hc : (sub8 (bcd x) (bcd y) false).c = true ↔
      (16 * (x / 10 - y / 10) + (x % 10 - y % 10) : Int) < 0 := by
    simp only [sub8, bcd_toNat hx, bcd_toNat hy, Bool.toNat_false, decide_eq_true_eq]
    omega
  have hborrow : 10 * ((x / 10 : Int) - y / 10) + (x % 10 - y % 10) < 0 ↔ x < y := by omega
  rw [daa8_decimal_difference (by omega) (by omega) ha hh hc (z := (100 + x - y) % 100) (by omega) (by omega),
    decide_eq_decide.mpr hborrow]

end Sys2Proof.Machine

open Sys2Proof Sys2Proof.Machine

/-- Settles O39: ADD and ADC are the operations `add` and `adc` of the ALU code, and both are `add8`. -/
theorem addAndAdcSumAndFlags : Obligations.AddAndAdcSumAndFlags := by
  unfold Obligations.AddAndAdcSumAndFlags
  intro o n b1 b2 s addOp adcOp after
  have hafter (v : Byte) (cin : Bool) (len : Word) (cost : Nat) :
      s.afterAlu true (add8 s.a v cin) len cost = after v cin.toNat len cost := by
    rw [add8_eq]
    rfl
  exact ⟨(exec_alu .add o b1 b2 s).trans (congrArg _ (hafter _ false _ _)),
    (exec_aluImm .add n b2 s).trans (congrArg _ (hafter _ false _ _)),
    (exec_alu .adc o b1 b2 s).trans (congrArg _ (hafter _ s.fc _ _)),
    (exec_aluImm .adc n b2 s).trans (congrArg _ (hafter _ s.fc _ _))⟩

/-- Settles O40: SUB, SBC and CP are the operations `sub`, `sbc` and `cp` of the ALU code, all `sub8`; CP is the one
that does not write A. -/
theorem subSbcAndCpDifferenceAndFlags : Obligations.SubSbcAndCpDifferenceAndFlags := by
  unfold Obligations.SubSbcAndCpDifferenceAndFlags
  intro o n b1 b2 s subOp sbcOp cpOp after
  have hafter (w : Bool) (v : Byte) (cin : Bool) (len : Word) (cost : Nat) :
      s.afterAlu w (sub8 s.a v cin) len cost = after w v cin.toNat len cost := by
    rw [sub8_eq]
    rfl
  exact ⟨(exec_alu .sub o b1 b2 s).trans (congrArg _ (hafter true _ false _ _)),
    (exec_aluImm .sub n b2 s).trans (congrArg _ (hafter true _ false _ _)),
    (exec_alu .sbc o b1 b2 s).trans (congrArg _ (hafter true _ s.fc _ _)),
    (exec_aluImm .sbc n b2 s).trans (congrArg _ (hafter true _ s.fc _ _)),
    (exec_alu .cp o b1 b2 s).trans (congrArg _ (hafter false _ false _ _)),
    (exec_aluImm .cp n b2 s).trans (congrArg _ (hafter false _ false _ _))⟩

/-- Settles O41: AND, XOR and OR are operations of the ALU code, and `logic8` is stated as their rules are. -/
theorem logicResultsAndFlags : Obligations.LogicResultsAndFlags := by
  unfold Obligations.LogicResultsAndFlags
  intro o n b1 b2 s andOp xorOp orOp after
  exact ⟨exec_alu .and o b1 b2 s, exec_aluImm .and n b2 s, exec_alu .xor o b1 b2 s, exec_aluImm .xor n b2 s,
    exec_alu .or o b1 b2 s, exec_aluImm .or n b2 s⟩

/-- Settles O42: `inc8` and `dec8` in arithmetic, and one write of the operand. -/
theorem incAndDecOfAByte : Obligations.IncAndDecOfAByte := by
  unfold Obligations.IncAndDecOfAByte
  intro o b1 b2 s incOp decOp v
  refine ⟨⟨_, exec_incOperand o b1 b2 s, ?_⟩, ⟨_, exec_decOperand o b1 b2 s, ?_⟩⟩
  · rw [incOperand, inc8_eq]
    exact writesOperand_dst8 s o _ 1 _ _ _ _ _
  · rw [decOperand, dec8_eq]
    exact writesOperand_dst8 s o _ 1 _ _ _ _ _

/-- Settles O43: two uses of O42; the second instruction reads what the first wrote, and writes the old value
back. -/
theorem incAndDecUndoEachOther : Obligations.IncAndDecUndoEachOther := by
  unfold Obligations.IncAndDecUndoEachOther
  intro r b1 b2 s incOp decOp
  obtain ⟨⟨t, ht, htw⟩, ⟨t', ht', htw'⟩⟩ := incAndDecOfAByte (.reg r) b1 b2 s
  obtain ⟨-, ⟨u, hu, huw⟩⟩ := incAndDecOfAByte (.reg r) b1 b2 t
  obtain ⟨⟨u', hu', huw'⟩, -⟩ := incAndDecOfAByte (.reg r) b1 b2 t'
  refine ⟨⟨t, u, ht, hu, ?_⟩, ⟨t', u', ht', hu', ?_⟩⟩
  · obtain ⟨hreg, hfc, hpc, hcfg⟩ := htw.reg_reads
    have hz : s.reg8 r + 1 = 0x01 ↔ s.reg8 r = 0 := by bv_omega
    have hh : (s.reg8 r + 1).toNat % 16 = 0 ↔ (s.reg8 r).toNat % 16 = 15 := by bv_omega
    rw [State.src8, hreg, hfc, hpc, State.ruleCost_congr hcfg, State.src8, BitVec.add_sub_cancel,
      decide_eq_decide.mpr hz, decide_eq_decide.mpr hh, BitVec.add_assoc] at huw
    exact htw.reg_restored huw
  · obtain ⟨hreg, hfc, hpc, hcfg⟩ := htw'.reg_reads
    have hz : s.reg8 r - 1 = 0xFF ↔ s.reg8 r = 0 := by bv_omega
    have hh : (s.reg8 r - 1).toNat % 16 = 15 ↔ (s.reg8 r).toNat % 16 = 0 := by bv_omega
    rw [State.src8, hreg, hfc, hpc, State.ruleCost_congr hcfg, State.src8, BitVec.sub_add_cancel,
      decide_eq_decide.mpr hz, decide_eq_decide.mpr hh, BitVec.add_assoc] at huw'
    exact htw'.reg_restored huw'

/-- Settles O44: the algorithm over the integers is `daa8` (`daa8_eq`). -/
theorem daaCorrectsByTheAlgorithm : Obligations.DaaCorrectsByTheAlgorithm := by
  unfold Obligations.DaaCorrectsByTheAlgorithm
  intro b1 b2 s a low high res
  rw [exec_daa, daa8_eq]
  rfl

/-- Settles O45: DAA reads the flags that the addition or the subtraction left, and corrects each digit. -/
theorem daaMakesDecimalSumsAndDifferences : Obligations.DaaMakesDecimalSumsAndDifferences := by
  unfold Obligations.DaaMakesDecimalSumsAndDifferences
  intro x y b1 b2 s hx hy hs
  refine ⟨⟨_, _, exec_aluImm .add (bcd y) b2 s, exec_daa b1 b2 _, ?_⟩,
    ⟨_, _, exec_aluImm .sub (bcd y) b2 s, exec_daa b1 b2 _, ?_⟩⟩
  · simp [AluOp.eval, AluOp.writesA, hs, daa8_add8_bcd hx hy]
  · have hzero : (100 + x - y) % 100 = 0 ↔ x = y := by omega
    simp [AluOp.eval, AluOp.writesA, hs, daa8_sub8_bcd hx hy, hzero]

/-- Settles O46: each instruction is its rule, and charges the figure of its own cell. -/
theorem cplCcfAndScf : Obligations.CplCcfAndScf := by
  unfold Obligations.CplCcfAndScf
  intro b1 b2 s
  have hcost (op : Byte) (h : CycleTable.standard.cost op true = 1) := State.ruleCost_eq (s := s) h
  rw [hcost 0x2F rfl, hcost 0x3F rfl, hcost 0x37 rfl]
  exact ⟨rfl, rfl, rfl⟩

end

section
/-! PROOFS. The statements of the family 41_alu16: ADD HL,rr, INC and DEC of a pair, and SP plus a displacement. -/

namespace Sys2Proof.Machine

/-! ### The arithmetic of a word, in numbers (R251, R252, R260) -/

theorem word_add_one_eq (v : Word) : v + 1 = BitVec.ofNat 16 (v.toNat + 1) := by
  apply BitVec.eq_of_toNat_eq
  simp

/-- One less is 65535 more, modulo 2^16. -/
theorem word_sub_one_eq (v : Word) : v - 1 = BitVec.ofNat 16 (v.toNat + 65535) := by
  apply BitVec.eq_of_toNat_eq
  simp [BitVec.toNat_sub, Nat.add_comm]

/-- The sum of SP and the sign-extended byte is the integer sum, narrowed once. -/
theorem add_sext16_eq (sp : Word) (e : Byte) : sp + sext16 e = BitVec.ofInt 16 ((sp.toNat : Int) + e.toInt) := by
  rw [sext16_eq, BitVec.ofInt_add, BitVec.ofInt_natCast, BitVec.ofNat_toNat, BitVec.setWidth_eq]

/-! ### The three operations on a pair, by the fields of their opcodes (R102, R106) -/

theorem exec_addHL (p : Pair) (b1 b2 : Byte) (s : State) :
    exec (s.decodeBytes (0x09#8 ||| p.code <<< 4) b1 b2) s =
      .next ((addHL p s).charge (s.ruleCost (0x09#8 ||| p.code <<< 4) 2)) := by
  have hcost : CycleTable.standard.cost (0x09#8 ||| p.code <<< 4) true = 2 := by cases p <;> rfl
  rw [State.ruleCost_eq hcost]
  cases p <;> rfl

theorem exec_incPair (p : Pair) (b1 b2 : Byte) (s : State) :
    exec (s.decodeBytes (0x03#8 ||| p.code <<< 4) b1 b2) s =
      .next ((incPair p s).charge (s.ruleCost (0x03#8 ||| p.code <<< 4) 2)) := by
  have hcost : CycleTable.standard.cost (0x03#8 ||| p.code <<< 4) true = 2 := by cases p <;> rfl
  rw [State.ruleCost_eq hcost]
  cases p <;> rfl

theorem exec_decPair (p : Pair) (b1 b2 : Byte) (s : State) :
    exec (s.decodeBytes (0x0B#8 ||| p.code <<< 4) b1 b2) s =
      .next ((decPair p s).charge (s.ruleCost (0x0B#8 ||| p.code <<< 4) 2)) := by
  have hcost : CycleTable.standard.cost (0x0B#8 ||| p.code <<< 4) true = 2 := by cases p <;> rfl
  rw [State.ruleCost_eq hcost]
  cases p <;> rfl

/-- The fetch moves PC alone, which no pair holds, so the pair may be written before it. -/
theorem State.fetched_setPair_charge (s : State) (p : Pair) (v : Word) (len cost : Nat) :
    ((s.fetched len).setPair p v).charge cost =
      { s.setPair p v with pc := s.pc + BitVec.ofNat 16 len, delta := cost } := by
  cases p <;> rfl

end Sys2Proof.Machine

open Sys2Proof Sys2Proof.Machine

/-- Settles O47: `add16` is stated as the rule is, and one more or less of a word is a sum modulo 2^16. -/
theorem sixteenBitAddIncAndDec : Obligations.SixteenBitAddIncAndDec := by
  unfold Obligations.SixteenBitAddIncAndDec
  intro p b1 b2 s addHLOp incOp decOp hl v
  refine ⟨exec_addHL p b1 b2 s, (exec_incPair p b1 b2 s).trans ?_, (exec_decPair p b1 b2 s).trans ?_⟩
  · rw [incPair, State.fetched_setPair_charge, word_add_one_eq]
    rfl
  · rw [decPair, State.fetched_setPair_charge, word_sub_one_eq]
    rfl

/-- Settles O48: both instructions use `addSPe`, whose flags are stated as R260 states them; its sum is the integer
one. -/
theorem stackPointerPlusDisplacement : Obligations.StackPointerPlusDisplacement := by
  unfold Obligations.StackPointerPlusDisplacement
  intro e b2 s res flags
  have hres : s.sp + sext16 e = res := add_sext16_eq s.sp e
  rw [← hres, State.ruleCost_eq (op := 0xE8) (n := 4) rfl, State.ruleCost_eq (op := 0xF8) (n := 3) rfl]
  exact ⟨rfl, rfl⟩

end

section
/-! PROOFS. The statements of the family 42_rotate_shift_bit: the rotates of A, and the extended rotates, shifts, SWAP,
BIT, RES and SET. -/

namespace Sys2Proof.Machine

/-! ### Rotates and shifts in arithmetic (R280 to R283, R291 to R298) -/

theorem bit0_toNat (c : Bool) : (bit0 c).toNat = c.toNat := by cases c <;> rfl

theorem bit7_eq_bit0_shiftLeft (c : Bool) : bit7 c = bit0 c <<< 7 := by cases c <;> rfl

theorem getLsbD_zero_eq_decide (v : Byte) : v.getLsbD 0 = decide (v.toNat % 2 = 1) := by
  rw [BitVec.getLsbD, Nat.testBit_zero]

theorem getLsbD_seven_eq_decide (v : Byte) : v.getLsbD 7 = decide (v.toNat / 128 = 1) := by
  have hlt : v.toNat / 128 < 2 := by omega
  rw [BitVec.getLsbD, Nat.testBit_eq_decide_div_mod_eq, Nat.mod_eq_of_lt hlt]

theorem getLsbD_zero_toNat (v : Byte) : (v.getLsbD 0).toNat = v.toNat % 2 := by
  have hlt : v.toNat % 2 < 2 := by omega
  rw [getLsbD_zero_eq_decide]
  interval_cases v.toNat % 2 <;> rfl

theorem getLsbD_seven_toNat (v : Byte) : (v.getLsbD 7).toNat = v.toNat / 128 := by
  have hlt : v.toNat / 128 < 2 := by omega
  rw [getLsbD_seven_eq_decide]
  interval_cases v.toNat / 128 <;> rfl

/-- Bits put where a shift to the left left zeros do not carry. -/
theorem shiftLeft_or_toNat (v w : Byte) {k : Nat} (hw : w.toNat < 2 ^ k) :
    (v <<< k ||| w).toNat = v.toNat * 2 ^ k % 256 + w.toNat := by
  have hdisjoint : v <<< k &&& w = 0#8 := by
    apply BitVec.eq_of_getLsbD_eq
    intro i hi
    by_cases hik : i < k
    · simp [hik]
    · have hbit : w.getLsbD i = false :=
        Nat.testBit_lt_two_pow (hw.trans_le (Nat.pow_le_pow_right (by decide) (by omega)))
      simp [hbit]
  rw [← BitVec.add_eq_or_of_and_eq_zero _ _ hdisjoint, BitVec.toNat_add_of_and_eq_zero hdisjoint,
    BitVec.toNat_shiftLeft, Nat.shiftLeft_eq]

theorem or_bit0_toNat (v : Byte) (c : Bool) : (v <<< 1 ||| bit0 c).toNat = 2 * v.toNat % 256 + c.toNat := by
  have hlt : (bit0 c).toNat < 2 ^ 1 := by rw [bit0_toNat]; exact c.toNat_lt
  rw [shiftLeft_or_toNat v _ hlt, bit0_toNat, pow_one, Nat.mul_comm]

theorem or_bit7_toNat (v : Byte) (c : Bool) : (v >>> 1 ||| bit7 c).toNat = v.toNat / 2 + 128 * c.toNat := by
  have hhalf : (v >>> 1).toNat = v.toNat / 2 := by rw [BitVec.toNat_ushiftRight, Nat.shiftRight_one]
  have hlt : (v >>> 1).toNat < 2 ^ 7 := by omega
  have hc := c.toNat_lt
  rw [bit7_eq_bit0_shiftLeft, BitVec.or_comm, shiftLeft_or_toNat _ _ hlt, bit0_toNat, hhalf]
  omega

/-- The sign bit kept by SRA (R296). -/
theorem and_sign_eq_bit7 (v : Byte) : v &&& 0x80#8 = bit7 (v.getLsbD 7) := by
  have hbits : v &&& BitVec.twoPow 8 7 = if v.getLsbD 7 then BitVec.twoPow 8 7 else 0#8 := BitVec.and_twoPow v 7
  exact hbits

/-- SWAP: the low nibble goes up, the high one down (R297). -/
theorem swap_toNat (v : Byte) :
    ((v &&& 0x0F#8) <<< 4 ||| v >>> 4).toNat = 16 * (v.toNat % 16) + v.toNat / 16 := by
  have hhigh : (v >>> 4).toNat = v.toNat / 16 := by rw [BitVec.toNat_ushiftRight, Nat.shiftRight_eq_div_pow]
  have hlow : (v &&& 0x0F#8).toNat = v.toNat % 16 := Nat.and_two_pow_sub_one_eq_mod v.toNat 4
  have hlt : (v >>> 4).toNat < 2 ^ 4 := by omega
  rw [shiftLeft_or_toNat _ _ hlt, hlow, hhigh]
  omega

theorem RotOp.res_toNat (op : RotOp) (v : Byte) (fc : Bool) :
    (op.res v fc).toNat = rotateValue op v.toNat fc.toNat := by
  have hc := fc.toNat_lt
  cases op with
  | rlc =>
    rw [RotOp.res, or_bit0_toNat, getLsbD_seven_toNat, rotateValue]
    omega
  | rrc => rw [RotOp.res, or_bit7_toNat, getLsbD_zero_toNat, rotateValue]
  | rl =>
    rw [RotOp.res, or_bit0_toNat, rotateValue]
    omega
  | rr => rw [RotOp.res, or_bit7_toNat, rotateValue]
  | sla => rw [RotOp.res, BitVec.toNat_shiftLeft, Nat.shiftLeft_eq, Nat.mul_comm, rotateValue]
  | sra => rw [RotOp.res, and_sign_eq_bit7, or_bit7_toNat, getLsbD_seven_toNat, rotateValue]
  | swap => rw [RotOp.res, swap_toNat, rotateValue]
  | srl => rw [RotOp.res, BitVec.toNat_ushiftRight, Nat.shiftRight_one, rotateValue]

theorem RotOp.res_eq_ofNat (op : RotOp) (v : Byte) (fc : Bool) :
    op.res v fc = BitVec.ofNat 8 (rotateValue op v.toNat fc.toNat) := by
  rw [← RotOp.res_toNat, BitVec.ofNat_toNat, BitVec.setWidth_eq]

theorem RotOp.res_eq_zero_iff (op : RotOp) (v : Byte) (fc : Bool) :
    op.res v fc = 0 ↔ rotateValue op v.toNat fc.toNat = 0 := by
  rw [← RotOp.res_toNat, ← BitVec.toNat_inj]
  rfl

theorem RotOp.carry_eq (op : RotOp) (v : Byte) : op.carry v = rotateOut op v.toNat := by
  cases op with
  | rlc | rl | sla => exact getLsbD_seven_eq_decide v
  | rrc | rr | sra | srl => exact getLsbD_zero_eq_decide v
  | swap => rfl

/-! ### The extended instructions, by the fields of their opcodes (R103, R105, R111) -/

/-- What the extended byte with the fields `x`, `y` and the operand `o` runs. -/
def runFields (x y : Nat) (o : Operand8) (s : State) : State :=
  match x with
  | 0 => rotate (RotOp.ofCode y) o s
  | 1 => bitTest y o s
  | 2 => bitReset y o s
  | _ => bitSet y o s

theorem runExtended_eq (op2 : Byte) (s : State) :
    runExtended op2 s = runFields (op2.toNat / 64) (op2.toNat / 8 % 8) (Operand8.ofCode (op2.toNat % 8)) s := rfl

theorem RotOp.ofCode_code (op : RotOp) : RotOp.ofCode op.code.toNat = op := by cases op <;> rfl

theorem RotOp.code_lt (op : RotOp) : op.code.toNat < 8 := by cases op <;> decide

theorem Operand8.ofCode_code (o : Operand8) : Operand8.ofCode o.code.toNat = o := by
  cases o with
  | reg r => cases r <;> rfl
  | atHL => rfl

theorem Operand8.code_lt (o : Operand8) : o.code.toNat < 8 := by
  cases o with
  | reg r => cases r <;> decide
  | atHL => decide

theorem Operand8.cost_eq (o : Operand8) (onReg onHL : Nat) :
    o.cost onReg onHL = if o.code.toNat = 6 then onHL else onReg := by
  cases o with
  | reg r => cases r <;> rfl
  | atHL => rfl

/-- Decoding, running and charging an extended byte, by its fields. -/
theorem exec_extended {op2 : Byte} {x y : Nat} {o : Operand8} (hfields : op2.toNat = 64 * x + 8 * y + o.code.toNat)
    (hy : y < 8) (b2 : Byte) (s : State) : exec (s.decodeBytes 0xCB op2 b2) s =
      .next ((runFields x y o s).charge (s.ruleCostCB op2 (o.cost 2 (if x = 1 then 3 else 4)))) := by
  have ho := o.code_lt
  have hx : op2.toNat / 64 = x := by omega
  have hy' : op2.toNat / 8 % 8 = y := by omega
  have ho' : op2.toNat % 8 = o.code.toNat := by omega
  have hrun : runExtended op2 s = runFields x y o s := by
    rw [runExtended_eq, hx, hy', ho', Operand8.ofCode_code]
  have hcost : CycleTable.standard.cbCost op2 = o.cost 2 (if x = 1 then 3 else 4) := by
    rw [cbCost_standard, hx, ho', Operand8.cost_eq]
  rw [State.ruleCostCB_eq hcost, ← hrun, exec_eq]
  exact congrArg _ (executed_decodeCB op2 s)

theorem rotateByte_toNat (op : RotOp) (o : Operand8) :
    (op.code <<< 3 ||| o.code).toNat = 64 * 0 + 8 * op.code.toNat + o.code.toNat := by
  have hop := op.code_lt
  rw [shiftLeft_or_toNat op.code o.code (k := 3) o.code_lt]
  omega

theorem bitByte_toNat (x : Fin 4) (b : Fin 8) (o : Operand8) :
    (BitVec.ofNat 8 (64 * x.val) ||| (BitVec.ofNat 8 (8 * b.val) ||| o.code)).toNat =
      64 * x.val + 8 * b.val + o.code.toNat := by
  have hfields : ∀ (x : Fin 4) (b c : Fin 8),
      (64 * x.val ||| (8 * b.val ||| c.val)) = 64 * x.val + 8 * b.val + c.val := by decide
  have hx : 64 * x.val % 2 ^ 8 = 64 * x.val := by omega
  have hb : 8 * b.val % 2 ^ 8 = 8 * b.val := by omega
  rw [BitVec.toNat_or, BitVec.toNat_or, BitVec.toNat_ofNat, BitVec.toNat_ofNat, hx, hb]
  exact hfields x b ⟨o.code.toNat, o.code_lt⟩

theorem exec_rotate (op : RotOp) (o : Operand8) (b2 : Byte) (s : State) :
    exec (s.decodeBytes 0xCB (op.code <<< 3 ||| o.code) b2) s =
      .next ((rotate op o s).charge (s.ruleCostCB (op.code <<< 3 ||| o.code) (o.cost 2 4))) := by
  rw [exec_extended (rotateByte_toNat op o) op.code_lt, runFields, RotOp.ofCode_code, if_neg (by decide)]

/-! ### BIT, RES and SET (R300 to R302) -/

theorem getLsbD_bitMask (b k : Nat) (hk : k < 8) : (1#8 <<< b).getLsbD k = decide (k = b) := by
  rw [BitVec.getLsbD_shiftLeft, BitVec.getLsbD_one]
  by_cases h : k < b <;> simp [hk, h] <;> omega

theorem getLsbD_bitCleared (v : Byte) (b k : Nat) (hk : k < 8) :
    (v &&& ~~~(1#8 <<< b)).getLsbD k = if k = b then false else v.getLsbD k := by
  rw [BitVec.getLsbD_and, BitVec.getLsbD_not, getLsbD_bitMask b k hk]
  by_cases h : k = b <;> simp [hk, h]

theorem getLsbD_bitRaised (v : Byte) (b k : Nat) (hk : k < 8) :
    (v ||| 1#8 <<< b).getLsbD k = if k = b then true else v.getLsbD k := by
  rw [BitVec.getLsbD_or, getLsbD_bitMask b k hk]
  by_cases h : k = b <;> simp [h]

/-- An instruction that writes its operand and no flag (R16). -/
theorem writesOperand_dst8_keeping_flags (s : State) (o : Operand8) (v : Byte) (len cost : Nat) :
    WritesOperand s o v (fun u => { u with pc := s.pc + BitVec.ofNat 16 len, delta := cost })
      (((s.fetched len).dst8 o v).charge cost) := by
  cases o with
  | reg r => cases r <;> rfl
  | atHL =>
    refine ⟨(s.fetched len).writeByte_busWrite s.hl v, ?_⟩
    exact congrArg (State.charge · cost) ((s.fetched len).writeByte_exceptMemory s.hl v)

end Sys2Proof.Machine

open Sys2Proof Sys2Proof.Machine

/-- Settles O49: the rotate in arithmetic, with each instruction charged the figure of its own cell. -/
theorem accumulatorRotatesClearZ : Obligations.AccumulatorRotatesClearZ := by
  unfold Obligations.AccumulatorRotatesClearZ
  intro b1 b2 s after
  have hafter (op : RotOp) (opcode : Byte) (h : CycleTable.standard.cost opcode true = 1) :
      (rotateA op s).charge (s.cost opcode) = after op opcode := by
    rw [rotateA, RotOp.res_eq_ofNat, RotOp.carry_eq, ← State.ruleCost_eq h]
    rfl
  exact ⟨congrArg _ (hafter .rlc 0x07 rfl), congrArg _ (hafter .rrc 0x0F rfl),
    congrArg _ (hafter .rl 0x17 rfl), congrArg _ (hafter .rr 0x1F rfl)⟩

/-- Settles O50: the byte names `rotate` of its two fields, which is one write of the operand and of the flags. -/
theorem extendedRotatesAndShifts : Obligations.ExtendedRotatesAndShifts := by
  unfold Obligations.ExtendedRotatesAndShifts
  intro op o b2 s op2Op v res
  refine ⟨_, exec_rotate op o b2 s, ?_⟩
  rw [rotate, decide_eq_decide.mpr (RotOp.res_eq_zero_iff op _ _), RotOp.res_eq_ofNat, RotOp.carry_eq]
  exact writesOperand_dst8 s o _ 2 _ _ _ _ _

/-- Settles O51: the byte names the bit and the operand; RES and SET mask the one bit and write the operand once. -/
theorem bitResAndSet : Obligations.BitResAndSet := by
  unfold Obligations.BitResAndSet
  intro b o b2 s v field bitOp resOp setOp
  have hexec (x : Fin 4) := exec_extended (bitByte_toNat x b o) b.isLt b2 s
  refine ⟨hexec 1, ⟨v &&& ~~~(1#8 <<< b.val), _, getLsbD_bitCleared v b, hexec 2, ?_⟩,
    ⟨v ||| 1#8 <<< b.val, _, getLsbD_bitRaised v b, hexec 3, ?_⟩⟩
  · exact writesOperand_dst8_keeping_flags s o _ 2 _
  · exact writesOperand_dst8_keeping_flags s o _ 2 _

end

section
/-! PROOFS. The statements of the family 43_control_flow: jumps, calls, restarts and returns, and a return right after
a call. -/

namespace Sys2Proof.Machine

/-! ### Conditional transfers: one path is run, and its own figure is charged (R616, R321) -/

theorem State.charge_either_path {s : State} {op : Byte} {taken notTaken : Nat}
    (hcell : CycleTable.standard.cell op = ⟨notTaken, taken⟩) (c : Bool) (t u : State) :
    (if c then t else u).charge (s.costIf op c) =
      if c then t.charge (s.ruleCostIf op true taken) else u.charge (s.ruleCostIf op false notTaken) := by
  have ht : CycleTable.standard.cost op true = taken := by rw [CycleTable.cost, hcell]; rfl
  have hn : CycleTable.standard.cost op false = notTaken := by rw [CycleTable.cost, hcell]; rfl
  rw [State.ruleCostIf_eq ht, State.ruleCostIf_eq hn]
  cases c <;> rfl

/-! ### Jumps -/

/-- The displacement counts from the address after the two-byte instruction (R322). -/
theorem after_jr_add_sext16_eq (pc : Word) (e : Byte) :
    pc + 2 + sext16 e = BitVec.ofInt 16 ((pc.toNat : Int) + 2 + e.toInt) := by
  rw [sext16_eq, BitVec.ofInt_add, BitVec.ofInt_add, BitVec.ofInt_natCast, BitVec.ofNat_toNat, BitVec.setWidth_eq]
  rfl

/-- JP cc,nn (R324). -/
theorem exec_jpIf (cc : Cond) (lo hi : Byte) (s : State) :
    exec (s.decodeBytes (0xC2#8 ||| cc.code <<< 3) lo hi) s =
      .next (if s.cond cc then
          ((s.fetched 3).jump (joinBytes hi lo)).charge (s.ruleCostIf (0xC2#8 ||| cc.code <<< 3) true 4)
        else (s.fetched 3).charge (s.ruleCostIf (0xC2#8 ||| cc.code <<< 3) false 3)) := by
  have hcell : CycleTable.standard.cell (0xC2#8 ||| cc.code <<< 3) = ⟨3, 4⟩ := by cases cc <;> rfl
  rw [← State.charge_either_path hcell]
  cases cc <;> rfl

/-- JR cc,e (R327). -/
theorem exec_jrIf (cc : Cond) (e b2 : Byte) (s : State) :
    exec (s.decodeBytes (0x20#8 ||| cc.code <<< 3) e b2) s =
      .next (if s.cond cc then
          ((s.fetched 2).jumpRelative e).charge (s.ruleCostIf (0x20#8 ||| cc.code <<< 3) true 3)
        else (s.fetched 2).charge (s.ruleCostIf (0x20#8 ||| cc.code <<< 3) false 2)) := by
  have hcell : CycleTable.standard.cell (0x20#8 ||| cc.code <<< 3) = ⟨2, 3⟩ := by cases cc <;> rfl
  rw [← State.charge_either_path hcell]
  cases cc <;> rfl

/-- CALL cc,nn (R329). -/
theorem exec_callIf (cc : Cond) (lo hi : Byte) (s : State) :
    exec (s.decodeBytes (0xC4#8 ||| cc.code <<< 3) lo hi) s =
      .next (if s.cond cc then
          ((s.fetched 3).callTo (joinBytes hi lo)).charge (s.ruleCostIf (0xC4#8 ||| cc.code <<< 3) true 6)
        else (s.fetched 3).charge (s.ruleCostIf (0xC4#8 ||| cc.code <<< 3) false 3)) := by
  have hcell : CycleTable.standard.cell (0xC4#8 ||| cc.code <<< 3) = ⟨3, 6⟩ := by cases cc <;> rfl
  rw [← State.charge_either_path hcell]
  cases cc <;> rfl

/-- RET cc (R331). -/
theorem exec_retIf (cc : Cond) (b1 b2 : Byte) (s : State) :
    exec (s.decodeBytes (0xC0#8 ||| cc.code <<< 3) b1 b2) s =
      .next (if s.cond cc then
          ((s.fetched 1).returnToCaller).charge (s.ruleCostIf (0xC0#8 ||| cc.code <<< 3) true 5)
        else (s.fetched 1).charge (s.ruleCostIf (0xC0#8 ||| cc.code <<< 3) false 2)) := by
  have hcell : CycleTable.standard.cell (0xC0#8 ||| cc.code <<< 3) = ⟨2, 5⟩ := by cases cc <;> rfl
  rw [← State.charge_either_path hcell]
  cases cc <;> rfl

/-! ### CALL, RST and RET (R328, R330, R333) -/

theorem exec_call (lo hi : Byte) (s : State) :
    exec (s.decodeBytes 0xCD lo hi) s =
      .next (((s.fetched 3).callTo (joinBytes hi lo)).charge (s.ruleCost 0xCD 6)) := by
  rw [State.ruleCost_eq (n := 6) rfl]
  rfl

/-- The field of the opcode is the target's number of eight bytes (R333). -/
theorem exec_rst (k : Fin 8) (b1 b2 : Byte) (s : State) :
    exec (s.decodeBytes (0xC7#8 ||| BitVec.ofNat 8 (8 * k.val)) b1 b2) s =
      .next (((s.fetched 1).callTo (BitVec.ofNat 16 (8 * k.val))).charge
        (s.ruleCost (0xC7#8 ||| BitVec.ofNat 8 (8 * k.val)) 4)) := by
  have hcost : CycleTable.standard.cost (0xC7#8 ||| BitVec.ofNat 8 (8 * k.val)) true = 4 := by
    fin_cases k <;> rfl
  rw [State.ruleCost_eq hcost]
  fin_cases k <;> rfl

theorem exec_ret (b1 b2 : Byte) (s : State) :
    exec (s.decodeBytes 0xC9 b1 b2) s = .next (((s.fetched 1).returnToCaller).charge (s.ruleCost 0xC9 4)) := by
  rw [State.ruleCost_eq (n := 4) rfl]
  rfl

theorem exec_reti (b1 b2 : Byte) (s : State) :
    exec (s.decodeBytes 0xD9 b1 b2) s = .next (((s.fetched 1).returnFromInterrupt).charge (s.ruleCost 0xD9 4)) := by
  rw [State.ruleCost_eq (n := 4) rfl]
  rfl

/-- The fetch moves PC alone, which the return then replaces by the word on top of the stack (R330). -/
theorem State.fetched_returnToCaller_charge (s : State) (len cost : Nat) :
    ((s.fetched len).returnToCaller).charge cost = { s with sp := s.sp + 2, pc := s.top16, delta := cost } := rfl

/-- RETI sets `ime` besides (R332). -/
theorem State.fetched_returnFromInterrupt_charge (s : State) (len cost : Nat) :
    ((s.fetched len).returnFromInterrupt).charge cost =
      { s with sp := s.sp + 2, pc := s.top16, ime := true, delta := cost } := rfl

@[simp] theorem State.callTo_sp (s : State) (target : Word) : (s.callTo target).sp = s.sp - 2 :=
  s.push16_sp s.pc

@[simp] theorem State.callTo_cfg (s : State) (target : Word) : (s.callTo target).cfg = s.cfg :=
  s.push16_cfg s.pc

/-- A call pushes the address after the instruction and goes to the target; nothing else changes (R328). -/
theorem State.callTo_pushes (s : State) (len : Nat) (target : Word) (cost : Nat) :
    let t := ((s.fetched len).callTo target).charge cost
    let back := s.pc + BitVec.ofNat 16 len
    BusWrites s (s.sp - 1) (hiByte back) (s.sp - 2) (loByte back) t ∧
      t.exceptMemory s = { s with sp := s.sp - 2, pc := target, delta := cost } :=
  ⟨(s.fetched len).push16_busWrites _,
    congrArg (fun u => (u.jump target).charge cost) ((s.fetched len).push16_exceptMemory _)⟩

/-! ### What was pushed is what is popped (R334) -/

/-- The pushed word is on top of the stack where both its bytes are kept by the bus (R68). -/
theorem State.top16_push16 {s : State} (v : Word)
    (hrom₁ : s.cfg.romEnd ≤ (s.sp - 1).toNat) (hrom₂ : s.cfg.romEnd ≤ (s.sp - 2).toNat)
    (hdiv₁ : s.sp - 1 ≠ 0xFF04) (hdiv₂ : s.sp - 2 ≠ 0xFF04) : (s.push16 v).top16 = v := by
  obtain ⟨u, hcfg, hhigh, hlow⟩ := s.push16_busWrites v
  have hnext : s.sp - 2 + 1 = s.sp - 1 := by bv_omega
  have hapart : s.sp - 1 ≠ s.sp - 2 := by bv_omega
  have hlo : (s.push16 v).readByte (s.sp - 2) = loByte v := by
    rw [hlow.readByte_self (by rwa [hcfg]), if_neg hdiv₂]
  have hhi : (s.push16 v).readByte (s.sp - 1) = hiByte v := by
    rw [hlow.readByte_other hapart, hhigh.readByte_self hrom₁, if_neg hdiv₁]
  rw [State.top16, State.push16_sp, hnext, hlo, hhi, joinBytes_hiByte_loByte]

end Sys2Proof.Machine

open Sys2Proof Sys2Proof.Machine

/-- Settles O52: a jump is the fetch and the write of PC, and a conditional one is the fetch alone on its other
path. -/
theorem jumpsTakenAndNotTaken : Obligations.JumpsTakenAndNotTaken := by
  unfold Obligations.JumpsTakenAndNotTaken
  intro cc lo hi e b1 b2 s jpIfOp jrIfOp target
  have htarget : s.pc + 2 + sext16 e = target := after_jr_add_sext16_eq s.pc e
  rw [State.ruleCost_eq (op := 0xC3) (n := 4) rfl, State.ruleCost_eq (op := 0xE9) (n := 1) rfl,
    State.ruleCost_eq (op := 0x18) (n := 3) rfl, ← htarget]
  exact ⟨rfl, exec_jpIf cc lo hi s, rfl, rfl, exec_jrIf cc e b2 s⟩

/-- Settles O53: CALL, CALL cc on its taken path and RST all use `callTo`. -/
theorem callsAndRestartsPushTheReturnAddress : Obligations.CallsAndRestartsPushTheReturnAddress := by
  unfold Obligations.CallsAndRestartsPushTheReturnAddress
  intro cc k lo hi b1 b2 s callIfOp rstOp pushes
  refine ⟨⟨_, exec_call lo hi s, s.callTo_pushes 3 _ _⟩, ⟨_, exec_callIf cc lo hi s, fun h => ?_, fun h => ?_⟩,
    ⟨_, exec_rst k b1 b2 s, s.callTo_pushes 1 _ _⟩⟩
  · rw [if_pos h]
    exact s.callTo_pushes 3 _ _
  · rw [h]
    rfl

/-- Settles O54: RET, RET cc on its taken path and RETI all use `returnToCaller`. -/
theorem returnsPopThePC : Obligations.ReturnsPopThePC := by
  unfold Obligations.ReturnsPopThePC
  intro cc b1 b2 s retIfOp popped
  have hreti := exec_reti b1 b2 s
  rw [State.fetched_returnFromInterrupt_charge] at hreti
  exact ⟨exec_ret b1 b2 s, exec_retIf cc b1 b2 s, hreti⟩

/-- Settles O55: CALL left the address after it on top of the stack, two below the old SP. -/
theorem returnAfterCallComesBack : Obligations.ReturnAfterCallComesBack := by
  unfold Obligations.ReturnAfterCallComesBack
  intro lo hi b1 b2 s t hrom₁ hrom₂ hdiv₁ hdiv₂ h
  have ht : ((s.fetched 3).callTo (joinBytes hi lo)).charge (s.ruleCost 0xCD 6) = t :=
    Host.Outcome.next.inj ((exec_call lo hi s).symm.trans h)
  have hsp : t.sp + 2 = s.sp := by rw [← ht]; simp
  have hcfg : t.cfg = s.cfg := by rw [← ht]; simp
  have htop : t.top16 = s.pc + 3 := by
    rw [← ht]
    exact State.top16_push16 (s := s.fetched 3) _ hrom₁ hrom₂ hdiv₁ hdiv₂
  have hcost : t.ruleCost 0xC9 4 = s.ruleCost 0xC9 4 := by rw [State.ruleCost, hcfg, State.ruleCost]
  rw [exec_ret, State.fetched_returnToCaller_charge, hsp, htop, hcost]

end

section
/-! PROOFS. The statements of the family 44_engine: what a step runs in each run state, who leaves Running, and the
instructions of CPU control. -/

namespace Sys2Proof.Machine

/-! ### The states without a step (R361) -/

theorem step_faulted {s : State} {r : FaultRecord} (h : s.fault = some r) : step s = .fault (.runFaulted r) := by
  rw [step, h]

theorem State.runState_stopped {s : State} (h : s.stopped = true) : s.runState = .stopped := by
  rw [State.runState, if_pos h]

theorem step_stopped {s : State} (hf : s.fault = none) (h : s.stopped = true) : step s = .fault .runStopped := by
  simp [step, hf, State.runState_stopped h]

/-! ### The instruction of a running step (R363) -/

/-- What the decoder reads from the bytes at PC is the instruction the engine fetches. -/
theorem State.fetchInstr_of_decode {s : State} {i : Instr} {rest : List Byte}
    (h : decode s.cfg.stopLen [s.readByte s.pc, s.readByte (s.pc + 1), s.readByte (s.pc + 2)] = .ok (i, rest)) :
    s.fetchInstr = i := by
  obtain ⟨op, tail, hbytes, -, rfl, -⟩ := decode_ok_cases h
  cases hbytes
  rfl

/-! ### Who enters Halted and Stopped (R381, R382, R550) -/

/-- Of the instructions, only HALT sets `halted` (R381). -/
theorem executed_halted_set {i : Instr} {s : State} (h : (executed i s).halted = true) :
    s.halted = true ∨ i = .halt := by
  rw [executed_halted] at h
  split at h
  · next hop => exact .inr (sharedOp_halt hop)
  · exact .inl h

/-- Of the instructions, only STOP sets `stopped` (R382). -/
theorem executed_stopped_set {i : Instr} {s : State} (h : (executed i s).stopped = true) :
    s.stopped = true ∨ ∃ b : Option Byte, i = .stop b := by
  rw [executed_stopped] at h
  split at h
  · next hop => exact .inr (sharedOp_stop hop)
  · exact .inl h

/-- What follows `exec` in a step may leave Halted (R516), but never enters it. -/
theorem State.afterExec_halted {s : State} (i : Instr) (p : Bool) (h : s.halted = false) :
    (s.afterExec i p).halted = false := by
  by_cases hf : s.fault = none
  · rw [State.afterExec_ok i p hf]
    exact State.completeStep_halted _ ((s.eiDelay_halted i p).trans h)
  · rw [State.afterExec_fault i p hf, h]

theorem State.afterExec_stopped (s : State) (i : Instr) (p : Bool) : (s.afterExec i p).stopped = s.stopped := by
  by_cases hf : s.fault = none
  · rw [State.afterExec_ok i p hf, State.completeStep_stopped, State.eiDelay_stopped]
  · rw [State.afterExec_fault i p hf]

/-! ### STOP (R382) -/

/-- STOP skips as many bytes as `P_STOP_LEN` says, whatever the second one is. -/
theorem exec_stop (b1 b2 : Byte) (s : State) :
    exec (s.decodeBytes 0x10 b1 b2) s = .next ((stop s).charge (s.cost 0x10)) := by
  cases hlen : s.cfg.stopLen <;> rw [State.decodeBytes, hlen] <;> rfl

theorem stop_charge (s : State) (cost : Nat) :
    (stop s).charge cost = { s with
      stopped := true
      pc := if s.cfg.stopLen = .two then s.pc + 2 else s.pc + 1
      delta := cost } := by
  rw [stop]
  cases s.cfg.stopLen <;> rfl

end Sys2Proof.Machine

open Sys2Proof Sys2Proof.Machine

/-- Settles O27: of the instructions only HALT sets `halted` and only STOP sets `stopped`, and the rest of the step
sets neither. -/
theorem onlyHaltAndStopLeaveRunning : Obligations.OnlyHaltAndStopLeaveRunning := by
  unfold Obligations.OnlyHaltAndStopLeaveRunning
  intro s t hs h
  rw [step_running hs] at h
  cases h
  obtain ⟨-, hstopped, hhalted⟩ := hs
  constructor
  · intro ht
    have hexec : (executed s.fetchInstr s).halted = true := eq_true_of_ne_false fun hne =>
      Bool.false_ne_true ((State.afterExec_halted _ _ hne).symm.trans ht)
    exact (executed_halted_set hexec).resolve_left (ne_true_of_eq_false hhalted)
  · intro ht
    rw [State.afterExec_stopped] at ht
    exact (executed_stopped_set ht).resolve_left (ne_true_of_eq_false hstopped)

/-- Settles O6: the step runs the instruction fetched (`step_running`), which is the one decoded; a fault ends it
there, and otherwise the EI delay and the rest of R360 follow. -/
theorem stepRunsTheInstructionAtPC : Obligations.StepRunsTheInstructionAtPC := by
  unfold Obligations.StepRunsTheInstructionAtPC
  intro s i rest hs hdecode
  have hstep := step_running hs
  rw [State.fetchInstr_of_decode hdecode] at hstep
  refine ⟨executed i s, exec_eq i s, fun hf => ?_, fun hf => ?_⟩
  · rw [hstep, State.afterExec_fault _ _ hf]
  · rw [hstep, State.afterExec_ok _ _ hf, State.eiDelay_eq, executed_cfg]
    rfl

/-- Settles O8: a Halted step charges one machine cycle, and the rest of R360 follows. -/
theorem haltedStepOnlyCountsTime : Obligations.HaltedStepOnlyCountsTime := by
  unfold Obligations.HaltedStepOnlyCountsTime
  intro s hs
  rw [step_inHalt hs]
  rfl

/-- Settles O9: `step` looks at the fault record first, and then at the run state. -/
theorem faultedOrStoppedStateHasNoStep : Obligations.FaultedOrStoppedStateHasNoStep := by
  unfold Obligations.FaultedOrStoppedStateHasNoStep
  intro s
  exact ⟨fun _ => step_faulted, step_stopped⟩

/-- Settles O56: each instruction is the fetch and the write of its one mode flag; the length of STOP is that of
`P_STOP_LEN`. -/
theorem cpuControlInstructions : Obligations.CpuControlInstructions := by
  unfold Obligations.CpuControlInstructions
  intro b1 b2 s
  have hcost (op : Byte) (h : CycleTable.standard.cost op true = 1) := State.ruleCost_eq (s := s) h
  rw [hcost 0x00 rfl, hcost 0x76 rfl, hcost 0x10 rfl, hcost 0xF3 rfl, hcost 0xFB rfl, exec_stop, stop_charge]
  exact ⟨rfl, rfl, rfl, rfl, rfl⟩

end

section
/-! PROOFS. The statements of the family 45_load_store: loads, stores, stack transfers, and a POP right after a
PUSH. -/

namespace Sys2Proof.Machine

/-! ### Loads and stores of an operand code, by the fields of their opcodes (R102, R105) -/

/-- LD r,r' (R400). -/
theorem exec_ldReg (r r' : Reg8) (b1 b2 : Byte) (s : State) :
    exec (s.decodeBytes (0x40#8 ||| r.code <<< 3 ||| r'.code) b1 b2) s =
      .next ((ldReg r r' s).charge (s.ruleCost (0x40#8 ||| r.code <<< 3 ||| r'.code) 1)) := by
  have hcost : CycleTable.standard.cost (0x40#8 ||| r.code <<< 3 ||| r'.code) true = 1 := by
    cases r <;> cases r' <;> rfl
  rw [State.ruleCost_eq hcost]
  cases r <;> cases r' <;> rfl

/-- LD r,n and LD (HL),n (R401, R404). -/
theorem exec_ldOperandImm (o : Operand8) (n b2 : Byte) (s : State) :
    exec (s.decodeBytes (0x06#8 ||| o.code <<< 3) n b2) s =
      .next (((s.fetched 2).dst8 o n).charge (s.ruleCost (0x06#8 ||| o.code <<< 3) (o.cost 2 3))) := by
  have hcost : CycleTable.standard.cost (0x06#8 ||| o.code <<< 3) true = o.cost 2 3 := by
    cases o with
    | reg r => cases r <;> rfl
    | atHL => rfl
  rw [State.ruleCost_eq hcost]
  cases o with
  | reg r => cases r <;> rfl
  | atHL => rfl

/-- LD r,(HL) (R402). -/
theorem exec_ldFromHL (r : Reg8) (b1 b2 : Byte) (s : State) :
    exec (s.decodeBytes (0x46#8 ||| r.code <<< 3) b1 b2) s =
      .next ((ldFromHL r s).charge (s.ruleCost (0x46#8 ||| r.code <<< 3) 2)) := by
  have hcost : CycleTable.standard.cost (0x46#8 ||| r.code <<< 3) true = 2 := by cases r <;> rfl
  rw [State.ruleCost_eq hcost]
  cases r <;> rfl

/-- LD (HL),r (R403). -/
theorem exec_ldToHL (r : Reg8) (b1 b2 : Byte) (s : State) :
    exec (s.decodeBytes (0x70#8 ||| r.code) b1 b2) s =
      .next ((ldToHL r s).charge (s.ruleCost (0x70#8 ||| r.code) 2)) := by
  have hcost : CycleTable.standard.cost (0x70#8 ||| r.code) true = 2 := by cases r <;> rfl
  rw [State.ruleCost_eq hcost]
  cases r <;> rfl

/-! ### Pairs and the stack, by the fields of their opcodes (R102, R106, R107) -/

/-- LD rr,nn (R420). -/
theorem exec_ldPairImm (p : Pair) (lo hi : Byte) (s : State) :
    exec (s.decodeBytes (0x01#8 ||| p.code <<< 4) lo hi) s =
      .next ((ldPairImm p (joinBytes hi lo) s).charge (s.ruleCost (0x01#8 ||| p.code <<< 4) 3)) := by
  have hcost : CycleTable.standard.cost (0x01#8 ||| p.code <<< 4) true = 3 := by cases p <;> rfl
  rw [State.ruleCost_eq hcost]
  cases p <;> rfl

/-- PUSH rr (R430). -/
theorem exec_push (p : StackPair) (b1 b2 : Byte) (s : State) :
    exec (s.decodeBytes (0xC5#8 ||| p.code <<< 4) b1 b2) s =
      .next ((push p s).charge (s.ruleCost (0xC5#8 ||| p.code <<< 4) 4)) := by
  have hcost : CycleTable.standard.cost (0xC5#8 ||| p.code <<< 4) true = 4 := by cases p <;> rfl
  rw [State.ruleCost_eq hcost]
  cases p <;> rfl

/-- POP rr (R431). -/
theorem exec_pop (p : StackPair) (b1 b2 : Byte) (s : State) :
    exec (s.decodeBytes (0xC1#8 ||| p.code <<< 4) b1 b2) s =
      .next ((pop p s).charge (s.ruleCost (0xC1#8 ||| p.code <<< 4) 3)) := by
  have hcost : CycleTable.standard.cost (0xC1#8 ||| p.code <<< 4) true = 3 := by cases p <;> rfl
  rw [State.ruleCost_eq hcost]
  cases p <;> rfl

/-! ### What a store leaves: its bus writes, and the fields it moves (R68, R73) -/

/-- The fetch and the charge touch neither memory nor `div_acc`. -/
theorem State.fetched_writeByte_charge (s : State) (len cost : Nat) (x : Word) (v : Byte) :
    let t := ((s.fetched len).writeByte x v).charge cost
    BusWrite s x v t ∧ t.exceptMemory s = { s with pc := s.pc + BitVec.ofNat 16 len, delta := cost } :=
  ⟨(s.fetched len).writeByte_busWrite x v,
    congrArg (State.charge · cost) ((s.fetched len).writeByte_exceptMemory x v)⟩

/-- HL changes after the write, whatever became of it (R413, R414). -/
theorem ldAToHLThen_stores (step : Word) (cost : Nat) (s : State) :
    let t := (ldAToHLThen step s).charge cost
    BusWrite s s.hl s.a t ∧ t.exceptMemory s =
      { s with h := hiByte (s.hl + step), l := loByte (s.hl + step), pc := s.pc + 1, delta := cost } := by
  obtain ⟨hwrite, hrest⟩ := s.fetched_writeByte_charge 1 cost s.hl s.a
  exact ⟨hwrite, congrArg (State.setHL · (s.hl + step)) hrest⟩

/-- A further write is seen in memory and in `div_acc` only. -/
theorem State.exceptMemory_writeByte (s u : State) (x : Word) (v : Byte) :
    (u.writeByte x v).exceptMemory s = u.exceptMemory s :=
  (congrArg (State.exceptMemory · s) (u.writeByte_exceptMemory x v) :)

/-- The second write starts from the memory that the first one left (R423). -/
theorem ldSPToAddr_stores (nn : Word) (cost : Nat) (s : State) :
    let t := (ldSPToAddr nn s).charge cost
    BusWrites s nn (loByte s.sp) (nn + 1) (hiByte s.sp) t ∧
      t.exceptMemory s = { s with pc := s.pc + 3, delta := cost } := by
  have hrest := (s.exceptMemory_writeByte _ (nn + 1) (hiByte s.sp)).trans
    ((s.fetched 3).writeByte_exceptMemory nn (loByte s.sp))
  exact ⟨⟨_, (s.fetched 3).writeByte_cfg nn _, (s.fetched 3).writeByte_busWrite nn _,
    State.writeByte_busWrite _ (nn + 1) _⟩, congrArg (State.charge · cost) hrest⟩

/-- The pair is pushed as it stood before SP moved (R430). -/
theorem push_stores (p : StackPair) (cost : Nat) (s : State) :
    let t := (push p s).charge cost
    BusWrites s (s.sp - 1) (hiByte (s.stackPair p)) (s.sp - 2) (loByte (s.stackPair p)) t ∧
      t.exceptMemory s = { s with sp := s.sp - 2, pc := s.pc + 1, delta := cost } :=
  ⟨(s.fetched 1).push16_busWrites _,
    congrArg (State.charge · cost) ((s.fetched 1).push16_exceptMemory _)⟩

/-! ### POP after PUSH (R432) -/

theorem joinBytes_maskF (hi lo : Byte) : joinBytes hi (maskF lo) = joinBytes hi lo &&& 0xFFF0 := by
  have hmask : (0xFFF0 : Word) = BitVec.allOnes 8 ++ 0xF0#8 := rfl
  rw [hmask, joinBytes, joinBytes, BitVec.and_append, BitVec.and_allOnes, maskF]

/-- Read after write of a pair of the stack: AF loses the low 4 bits of F (R24). -/
theorem State.stackPair_setStackPair (s : State) (p : StackPair) (v : Word) :
    (s.setStackPair p v).stackPair p = if p = .af then v &&& 0xFFF0 else v := by
  cases p with
  | bc | de | hl => exact joinBytes_hiByte_loByte v
  | af =>
    have haf : joinBytes (hiByte v) (maskF (loByte v)) = v &&& 0xFFF0 := by
      rw [joinBytes_maskF, joinBytes_hiByte_loByte]
    exact (congrArg (joinBytes (hiByte v)) (maskF_maskF (loByte v))).trans haf

theorem State.stackPair_charge (s : State) (p : StackPair) (n : Nat) :
    (s.charge n).stackPair p = s.stackPair p := by
  cases p <;> rfl

theorem pop_sp (p : StackPair) (s : State) : (pop p s).sp = s.sp + 2 := State.setStackPair_sp _ p _

end Sys2Proof.Machine

open Sys2Proof Sys2Proof.Machine

/-- Settles O31: each load is the fetch and the write of its register, whose value is read before the write. -/
theorem loadsToARegister : Obligations.LoadsToARegister := by
  unfold Obligations.LoadsToARegister
  intro r r' n b1 b2 s ldRROp ldRNOp ldRHLOp
  have hset (v : Byte) (len cost : Nat) : ((s.fetched len).setReg8 r v).charge cost =
      { s.setReg8 r v with pc := s.pc + BitVec.ofNat 16 len, delta := cost } :=
    writesOperand_dst8_keeping_flags s (.reg r) v len cost
  exact ⟨(exec_ldReg r r' b1 b2 s).trans (congrArg _ (hset _ 1 _)),
    (exec_ldOperandImm (.reg r) n b2 s).trans (congrArg _ (hset n 2 _)),
    (exec_ldFromHL r b1 b2 s).trans (congrArg _ (hset _ 1 _))⟩

/-- Settles O32: one bus write at HL after the fetch. -/
theorem storesAtHL : Obligations.StoresAtHL := by
  unfold Obligations.StoresAtHL
  intro r n b1 b2 s ldHLROp
  exact ⟨⟨_, exec_ldToHL r b1 b2 s, s.fetched_writeByte_charge 1 _ s.hl (s.reg8 r)⟩,
    ⟨_, exec_ldOperandImm .atHL n b2 s, s.fetched_writeByte_charge 2 _ s.hl n⟩⟩

/-- Settles O33: each load is its rule, and charges the figure of its own cell; the forms at 0xFF00 + n name
`highPage n`. -/
theorem loadsToTheAccumulator : Obligations.LoadsToTheAccumulator := by
  unfold Obligations.LoadsToTheAccumulator
  intro n lo hi b1 b2 s
  rw [State.ruleCost_eq (op := 0x0A) (n := 2) rfl, State.ruleCost_eq (op := 0x1A) (n := 2) rfl,
    State.ruleCost_eq (op := 0xFA) (n := 4) rfl, State.ruleCost_eq (op := 0xF0) (n := 3) rfl,
    State.ruleCost_eq (op := 0xF2) (n := 2) rfl, ← highPage_eq, ← highPage_eq]
  exact ⟨rfl, rfl, rfl, rfl, rfl⟩

/-- Settles O34: one bus write of A after the fetch, at the address of each form. -/
theorem storesOfTheAccumulator : Obligations.StoresOfTheAccumulator := by
  unfold Obligations.StoresOfTheAccumulator
  intro n lo hi b1 b2 s
  rw [State.ruleCost_eq (op := 0x02) (n := 2) rfl, State.ruleCost_eq (op := 0x12) (n := 2) rfl,
    State.ruleCost_eq (op := 0xEA) (n := 4) rfl, State.ruleCost_eq (op := 0xE0) (n := 3) rfl,
    State.ruleCost_eq (op := 0xE2) (n := 2) rfl, ← highPage_eq, ← highPage_eq]
  have hstore (len cost : Nat) (x : Word) := s.fetched_writeByte_charge len cost x s.a
  exact ⟨⟨_, rfl, hstore 1 _ s.bc⟩, ⟨_, rfl, hstore 1 _ s.de⟩, ⟨_, rfl, hstore 3 _ (joinBytes hi lo)⟩,
    ⟨_, rfl, hstore 2 _ (highPage n)⟩, ⟨_, rfl, hstore 1 _ (highPage s.c)⟩⟩

/-- Settles O35: HL is read for the access and then moved, by 1 or by -1. -/
theorem postModifyingAccesses : Obligations.PostModifyingAccesses := by
  unfold Obligations.PostModifyingAccesses
  intro b1 b2 s hl
  have hdec : hl - 1 = s.hl + -1 := BitVec.sub_eq_add_neg hl 1
  have hcost (op : Byte) (h : CycleTable.standard.cost op true = 2) := State.ruleCost_eq (s := s) h
  rw [hdec, hcost 0x2A rfl, hcost 0x3A rfl, hcost 0x22 rfl, hcost 0x32 rfl]
  exact ⟨rfl, rfl, ⟨_, rfl, ldAToHLThen_stores 1 _ s⟩, ⟨_, rfl, ldAToHLThen_stores (-1) _ s⟩⟩

/-- Settles O36: the pair is written after the fetch; LD (nn),SP is two bus writes in order. -/
theorem sixteenBitLoads : Obligations.SixteenBitLoads := by
  unfold Obligations.SixteenBitLoads
  intro p lo hi b1 b2 s ldPNOp
  rw [State.ruleCost_eq (op := 0xF9) (n := 2) rfl, State.ruleCost_eq (op := 0x08) (n := 5) rfl]
  exact ⟨(exec_ldPairImm p lo hi s).trans (congrArg _ (s.fetched_setPair_charge p _ 3 _)), rfl,
    ⟨_, rfl, ldSPToAddr_stores (joinBytes hi lo) _ s⟩⟩

/-- Settles O37: PUSH is `Push16` of the pair, and POP splits the word on top of the stack into its two bytes. -/
theorem pushAndPop : Obligations.PushAndPop := by
  unfold Obligations.PushAndPop
  intro p b1 b2 s pushOp popOp
  refine ⟨⟨_, exec_push p b1 b2 s, push_stores p _ s⟩, (exec_pop p b1 b2 s).trans (congrArg _ ?_)⟩
  rw [pop, State.top16]
  cases p with
  | bc | de | af =>
    rw [State.setStackPair, hiByte_joinBytes, loByte_joinBytes]
    rfl
  | hl =>
    rw [State.setStackPair, State.setHL, hiByte_joinBytes, loByte_joinBytes]
    rfl

/-- Settles O38: PUSH left the pair on top of the stack (`State.top16_push16`), and POP writes what is there to the
other pair. -/
theorem popAfterPushMovesTheValue : Obligations.PopAfterPushMovesTheValue := by
  unfold Obligations.PopAfterPushMovesTheValue
  intro p q b1 b2 s t pushOp popOp hrom₁ hrom₂ hdiv₁ hdiv₂ h
  have ht : (push p s).charge (s.ruleCost pushOp 4) = t :=
    Host.Outcome.next.inj ((exec_push p b1 b2 s).symm.trans h)
  have hsp : t.sp + 2 = s.sp := by rw [← ht]; simp [push]
  have htop : t.top16 = s.stackPair p := by
    rw [← ht]
    exact State.top16_push16 (s := s.fetched 1) _ hrom₁ hrom₂ hdiv₁ hdiv₂
  refine ⟨_, exec_pop q b1 b2 t, (pop_sp q t).trans hsp, ?_⟩
  rw [State.stackPair_charge, pop, State.stackPair_setStackPair, htop]

end

section
/-! PROOFS. The statements of the family 60_exceptions: what the Timer counts and writes, interrupt entry, and the
interrupt check. -/

namespace Sys2Proof.Machine

/-! ### What an advance reads as, byte by byte (R530, R532, R535) -/

/-- The periods in a time, where the rest of the time before is carried. -/
theorem add_div_carry (m n p : Nat) : (m + n) / p = m / p + (m % p + n) / p := by
  rcases Nat.eq_zero_or_pos p with rfl | hp
  · simp
  · calc (m + n) / p = (p * (m / p) + (m % p + n)) / p := by rw [← Nat.add_assoc, Nat.div_add_mod]
      _ = m / p + (m % p + n) / p := Nat.mul_add_div hp _ _

theorem timerPeriod_eq (tac : Byte) : timerPeriod tac =
    if tac.toNat % 4 = 0 then 1024 else if tac.toNat % 4 = 1 then 16 else if tac.toNat % 4 = 2 then 64 else 256 := by
  have hlt : tac.toNat % 4 < 4 := Nat.mod_lt _ (by decide)
  rw [timerPeriod]
  generalize tac.toNat % 4 = sel at hlt
  interval_cases sel <;> rfl

/-- The ticks of TIMA do not look at DIV. -/
theorem State.readByte_timaTicks_congr (n : Nat) {s t : State}
    (h : ∀ y : Word, y ≠ addrDIV → t.readByte y = s.readByte y) {y : Word} (hy : y ≠ addrDIV) :
    (State.timaTicks n t).readByte y = (State.timaTicks n s).readByte y := by
  induction n generalizing s t with
  | zero => exact h y hy
  | succ n ih =>
    refine ih fun z hz => ?_
    have htima := h addrTIMA (by decide)
    have htma := h addrTMA (by decide)
    have hif := h addrIF (by decide)
    rw [State.readByte_timaTick, State.readByte_timaTick, htima, htma, hif, h z hz]

/-- The ticks of TIMA that an advance by `clk` clocks runs while the Timer is enabled. -/
def State.timaPeriods (s : State) (clk : Nat) : Nat := (s.timaAcc + clk) / timerPeriod (s.readByte addrTAC)

theorem State.readByte_advanceDiv_other (s : State) (clk : Nat) {y : Word} (hy : y ≠ addrDIV) :
    (s.advanceDiv clk).readByte y = s.readByte y := by
  rw [State.readByte_advanceDiv, if_neg hy]

theorem State.advanceTimer_disabled {s : State} (clk : Nat) (h : timerEnabled (s.readByte addrTAC) = false) :
    s.advanceTimer clk = s.advanceDiv clk := by
  rw [State.advanceTimer, State.advanceTima_disabled]
  rwa [s.readByte_advanceDiv_other clk (by decide)]

theorem State.advanceTimer_enabled {s : State} (clk : Nat) (h : timerEnabled (s.readByte addrTAC) = true) :
    s.advanceTimer clk = { State.timaTicks (s.timaPeriods clk) (s.advanceDiv clk) with
      timaAcc := (s.timaAcc + clk) % timerPeriod (s.readByte addrTAC) } := by
  have htac := s.readByte_advanceDiv_other clk (y := addrTAC) (by decide)
  rw [State.advanceTimer, State.advanceTima_enabled _ _ (by rwa [htac]), htac, State.advanceDiv_timaAcc]
  rfl

/-- The TIMA loop of an advance does not write DIV. -/
theorem State.readByte_advanceTimer_DIV (s : State) (clk : Nat) :
    (s.advanceTimer clk).readByte addrDIV =
      s.readByte addrDIV + BitVec.ofNat 8 ((s.divAcc + clk) / 256) := by
  have hdiv : (s.advanceDiv clk).readByte addrDIV =
      s.readByte addrDIV + BitVec.ofNat 8 ((s.divAcc + clk) / 256) := by
    rw [State.readByte_advanceDiv, if_pos rfl]
  cases h : timerEnabled (s.readByte addrTAC) with
  | false => rw [State.advanceTimer_disabled clk h, hdiv]
  | true =>
    rw [State.advanceTimer_enabled clk h, ← hdiv]
    exact State.readByte_timaTicks_other _ _ (by decide) (by decide)

theorem State.readByte_advanceTimer_disabled {s : State} (clk : Nat)
    (h : timerEnabled (s.readByte addrTAC) = false) {y : Word} (hy : y ≠ addrDIV) :
    (s.advanceTimer clk).readByte y = s.readByte y := by
  rw [State.advanceTimer_disabled clk h, State.readByte_advanceDiv_other s clk hy]

theorem State.readByte_advanceTimer_enabled {s : State} (clk : Nat)
    (h : timerEnabled (s.readByte addrTAC) = true) {y : Word} (hy : y ≠ addrDIV) :
    (s.advanceTimer clk).readByte y = (State.timaTicks (s.timaPeriods clk) s).readByte y := by
  rw [State.advanceTimer_enabled clk h]
  exact State.readByte_timaTicks_congr _ (fun _ => s.readByte_advanceDiv_other clk) hy

theorem State.advanceTimer_timaAcc_disabled {s : State} (clk : Nat)
    (h : timerEnabled (s.readByte addrTAC) = false) : (s.advanceTimer clk).timaAcc = s.timaAcc := by
  rw [State.advanceTimer_disabled clk h, State.advanceDiv_timaAcc]

theorem State.advanceTimer_timaAcc_enabled {s : State} (clk : Nat)
    (h : timerEnabled (s.readByte addrTAC) = true) :
    (s.advanceTimer clk).timaAcc = (s.timaAcc + clk) % timerPeriod (s.readByte addrTAC) := by
  rw [State.advanceTimer_enabled clk h]

/-- The Timer never writes TAC, so it neither starts nor stops itself. -/
theorem State.readByte_advanceTimer_TAC (s : State) (clk : Nat) :
    (s.advanceTimer clk).readByte addrTAC = s.readByte addrTAC :=
  s.readByte_advanceTimer_other clk (by decide) (by decide) (by decide)

/-! ### Two advances are one: the rest that the first carries is counted by the second (R530) -/

theorem State.timaPeriods_add {s : State} (x y : Nat) (h : timerEnabled (s.readByte addrTAC) = true) :
    s.timaPeriods (x + y) = s.timaPeriods x + (s.advanceTimer x).timaPeriods y := by
  rw [State.timaPeriods, State.timaPeriods, State.timaPeriods, State.readByte_advanceTimer_TAC,
    State.advanceTimer_timaAcc_enabled x h, ← Nat.add_assoc]
  exact add_div_carry _ _ _

theorem State.readByte_advanceTimer_advanceTimer_DIV (s : State) (x y : Nat) :
    ((s.advanceTimer x).advanceTimer y).readByte addrDIV = (s.advanceTimer (x + y)).readByte addrDIV := by
  rw [State.readByte_advanceTimer_DIV, State.readByte_advanceTimer_DIV, State.readByte_advanceTimer_DIV,
    State.advanceTimer_divAcc, BitVec.add_assoc, ← BitVec.ofNat_add, ← Nat.add_assoc, ← add_div_carry]

theorem State.readByte_advanceTimer_advanceTimer_other (s : State) (x y : Nat) {w : Word} (hw : w ≠ addrDIV) :
    ((s.advanceTimer x).advanceTimer y).readByte w = (s.advanceTimer (x + y)).readByte w := by
  have htac := s.readByte_advanceTimer_TAC x
  cases h : timerEnabled (s.readByte addrTAC) with
  | false =>
    rw [State.readByte_advanceTimer_disabled y (by rwa [htac]) hw, State.readByte_advanceTimer_disabled x h hw,
      State.readByte_advanceTimer_disabled (x + y) h hw]
  | true =>
    rw [State.readByte_advanceTimer_enabled y (by rwa [htac]) hw,
      State.readByte_advanceTimer_enabled (x + y) h hw, State.timaPeriods_add x y h, State.timaTicks_add]
    exact State.readByte_timaTicks_congr _ (fun _ => State.readByte_advanceTimer_enabled x h) hw

theorem State.advanceTimer_advanceTimer_timaAcc (s : State) (x y : Nat) :
    ((s.advanceTimer x).advanceTimer y).timaAcc = (s.advanceTimer (x + y)).timaAcc := by
  have htac := s.readByte_advanceTimer_TAC x
  cases h : timerEnabled (s.readByte addrTAC) with
  | false =>
    rw [State.advanceTimer_timaAcc_disabled y (by rwa [htac]), State.advanceTimer_timaAcc_disabled x h,
      State.advanceTimer_timaAcc_disabled (x + y) h]
  | true =>
    rw [State.advanceTimer_timaAcc_enabled y (by rwa [htac]), State.advanceTimer_timaAcc_enabled x h, htac,
      State.advanceTimer_timaAcc_enabled (x + y) h, Nat.mod_add_mod, Nat.add_assoc]

/-! ### The frame of the Timer (R534, R536) -/

theorem State.timaTick_frame (s : State) : { s.timaTick with mem := s.mem } = s := by
  rw [State.mk.injEq]
  simp

theorem State.advanceTimer_frame (s : State) (clk : Nat) :
    { s.advanceTimer clk with mem := s.mem, divAcc := s.divAcc, timaAcc := s.timaAcc } = s := by
  rw [State.mk.injEq]
  simp

/-! ### Interrupt entry (R517) -/

/-- The state after the acknowledgement of bit `k`, in which PC is pushed. -/
def State.acknowledged (s : State) (k : Nat) : State :=
  { s.writeByte addrIF (s.readByte addrIF &&& ~~~(1#8 <<< k)) with ime := false, imePending := false, halted := false }

theorem State.enterInterrupt_eq (s : State) (k : Nat) :
    s.enterInterrupt k = ((s.acknowledged k).push16 s.pc).jump (interruptVector k) := by
  have hpc : (s.acknowledged k).pc = s.pc := s.writeByte_pc _ _
  rw [← hpc]
  rfl

theorem State.acknowledged_exceptMemory (s : State) (k : Nat) :
    (s.acknowledged k).exceptMemory s = { s with ime := false, imePending := false, halted := false } :=
  (congrArg (fun u : State => { u with ime := false, imePending := false, halted := false })
    (s.writeByte_exceptMemory addrIF _) :)

/-- A push is seen in memory, in `div_acc` and in SP only. -/
theorem State.exceptMemory_push16 (s u : State) (v : Word) :
    (u.push16 v).exceptMemory s = { u.exceptMemory s with sp := u.sp - 2 } :=
  (congrArg (State.exceptMemory · s) (u.push16_exceptMemory v) :)

theorem State.enterInterrupt_busWrites (s : State) (k : Nat) :
    ∃ u : State, u.cfg = s.cfg ∧ BusWrite s addrIF (s.readByte addrIF &&& ~~~(1#8 <<< k)) u ∧
      BusWrites u (s.sp - 1) (hiByte s.pc) (s.sp - 2) (loByte s.pc) (s.enterInterrupt k) := by
  have hsp : (s.acknowledged k).sp = s.sp := s.writeByte_sp _ _
  have hpush := (s.acknowledged k).push16_busWrites s.pc
  rw [hsp] at hpush
  rw [State.enterInterrupt_eq]
  exact ⟨s.acknowledged k, s.writeByte_cfg _ _, s.writeByte_busWrite addrIF _, hpush⟩

theorem State.enterInterrupt_exceptMemory (s : State) (k : Nat) :
    (s.enterInterrupt k).exceptMemory s = { s with
      sp := s.sp - 2, pc := interruptVector k, ime := false, imePending := false, halted := false } := by
  have hsp : (s.acknowledged k).sp = s.sp := s.writeByte_sp _ _
  have hpush := s.exceptMemory_push16 (s.acknowledged k) s.pc
  rw [State.acknowledged_exceptMemory, hsp] at hpush
  rw [State.enterInterrupt_eq]
  exact congrArg (State.jump · (interruptVector k)) hpush

/-! ### The interrupt check, by what it finds (R515, R516) -/

theorem State.interruptCheck_of_absent {s : State} (h : s.cfg.dispatch = .absent) : s.interruptCheck = s := by
  rw [State.interruptCheck, h]

/-- With a dispatcher, in a run that can go on, the check depends on the pending requests and on `ime` alone. -/
theorem State.interruptCheck_of_live {s : State} (hd : s.cfg.dispatch = .standard) (hs : s.Live) :
    s.interruptCheck =
      if s.pendingInterrupts = 0 then s
      else if s.ime then
        ({ s with halted := false } : State).dispatchInterrupt (lowestSetBit s.pendingInterrupts)
      else { s with halted := false } := by
  obtain ⟨hf, hst⟩ := hs
  rw [State.interruptCheck, hd, hf, hst]
  rfl

theorem State.interruptCheck_of_fault {s : State} (h : s.fault ≠ none) : s.interruptCheck = s := by
  cases hd : s.cfg.dispatch with
  | absent => exact State.interruptCheck_of_absent hd
  | standard =>
    rw [State.interruptCheck, hd]
    simp [Option.isSome_iff_ne_none.mpr h]

theorem State.dispatchInterrupt_eq (s : State) (k : Nat) :
    s.dispatchInterrupt k = ({ s.enterInterrupt k with cycles := s.cycles + 5 } : State).advanceTimer 20 := by
  rw [State.dispatchInterrupt, State.enterInterrupt_cycles]
  rfl

/-- A pending request ends Halted, whatever `ime` is (R516). -/
theorem State.interruptCheck_wakes {s : State} (hd : s.cfg.dispatch = .standard) (hs : s.Live)
    (hp : s.pendingInterrupts ≠ 0) : s.interruptCheck.halted = false := by
  rw [State.interruptCheck_of_live hd hs, if_neg hp]
  split
  · rw [State.dispatchInterrupt_eq, State.advanceTimer_halted]
    exact State.enterInterrupt_halted _ _
  · rfl

/-! ### The Timer clears no request (R536) -/

theorem State.pendingInterrupts_advanceTimer {s : State} (clk : Nat) (h : s.pendingInterrupts ≠ 0) :
    (s.advanceTimer clk).pendingInterrupts ≠ 0 := by
  have hie : (s.advanceTimer clk).readByte addrIE = s.readByte addrIE :=
    s.readByte_advanceTimer_other clk (by decide) (by decide) (by decide)
  rw [State.pendingInterrupts] at h
  rw [State.pendingInterrupts, hie]
  rcases s.readByte_advanceTimer_IF clk with hif | hif
  · rwa [hif]
  · rw [hif, BitVec.and_or_distrib_left, BitVec.and_or_distrib_right]
    exact fun h0 => h (BitVec.or_eq_zero_iff.mp h0).1

theorem State.pendingInterrupts_clocked {s : State} (h : s.pendingInterrupts ≠ 0) :
    s.clocked.pendingInterrupts ≠ 0 := State.pendingInterrupts_advanceTimer (4 * s.delta) h

end Sys2Proof.Machine

open Sys2Proof Sys2Proof.Machine

/-- Settles O13: DIV grows by the number of periods of 256 clocks, as a number modulo 256. -/
theorem divCountsEvery256Clocks : Obligations.DivCountsEvery256Clocks := by
  unfold Obligations.DivCountsEvery256Clocks
  intro s clk
  refine ⟨?_, s.advanceTimer_divAcc clk⟩
  have hdiv := congrArg BitVec.toNat (s.readByte_advanceTimer_DIV clk)
  rwa [BitVec.toNat_add, BitVec.toNat_ofNat, Nat.add_mod_mod] at hdiv

/-- Settles O14: the frame of a tick, and what it reads as. -/
theorem timaTickReloadsAndRequests : Obligations.TimaTickReloadsAndRequests := by
  unfold Obligations.TimaTickReloadsAndRequests
  exact fun s => ⟨s.timaTick_frame, s.readByte_timaTick⟩

/-- Settles O15: an enabled advance reads as its ticks of TIMA, which overflow (`State.timaTicks_overflow`) or do
not. -/
theorem timaCountsPeriodsWhileEnabled : Obligations.TimaCountsPeriodsWhileEnabled := by
  unfold Obligations.TimaCountsPeriodsWhileEnabled
  intro s clk tac period ticks tima tma t
  have hperiod : timerPeriod tac = period := timerPeriod_eq tac
  have hticks : s.timaPeriods clk = ticks := congrArg ((s.timaAcc + clk) / ·) hperiod
  refine ⟨s.readByte_advanceTimer_DIV clk, fun hoff => ?_, fun hon => ?_⟩
  · exact ⟨State.advanceTimer_timaAcc_disabled clk hoff, fun _ => State.readByte_advanceTimer_disabled clk hoff⟩
  · have hTIMA : t.readByte addrTIMA = (State.timaTicks ticks s).readByte addrTIMA :=
      hticks ▸ State.readByte_advanceTimer_enabled clk hon (by decide)
    have hIF : t.readByte addrIF = (State.timaTicks ticks s).readByte addrIF :=
      hticks ▸ State.readByte_advanceTimer_enabled clk hon (by decide)
    refine ⟨hperiod ▸ State.advanceTimer_timaAcc_enabled clk hon, fun hshort => ?_, fun hpast => ?_⟩
    · obtain ⟨htima, hif⟩ := State.timaTicks_no_overflow ticks s hshort
      exact ⟨(congrArg BitVec.toNat hTIMA).trans htima, hIF.trans hif⟩
    · obtain ⟨htima, hif⟩ := State.timaTicks_overflow ticks s hpast
      exact ⟨(congrArg BitVec.toNat hTIMA).trans htima, hIF.trans hif⟩

/-- Settles O16: DIV by its closed form, every other byte by the ticks of TIMA, which add up. -/
theorem timerAdvancesAddUp : Obligations.TimerAdvancesAddUp := by
  unfold Obligations.TimerAdvancesAddUp
  intro s x y
  refine ⟨fun w => ?_, ?_, s.advanceTimer_advanceTimer_timaAcc x y⟩
  · by_cases hw : w = addrDIV
    · rw [hw, State.readByte_advanceTimer_advanceTimer_DIV]
    · exact s.readByte_advanceTimer_advanceTimer_other x y hw
  · rw [State.advanceTimer_divAcc, State.advanceTimer_divAcc, State.advanceTimer_divAcc, Nat.mod_add_mod,
      Nat.add_assoc]

/-- Settles O17: the bytes an advance leaves, IF, and the frame. -/
theorem timerWritesOnlyItsOwn : Obligations.TimerWritesOnlyItsOwn := by
  unfold Obligations.TimerWritesOnlyItsOwn
  exact fun s clk => ⟨fun _ => s.readByte_advanceTimer_other clk, s.readByte_advanceTimer_IF clk,
    s.advanceTimer_frame clk⟩

/-- Settles O18: the acknowledgement is one bus write, and the push of PC is the other two. -/
theorem interruptEntrySavesPCAndMasks : Obligations.InterruptEntrySavesPCAndMasks := by
  unfold Obligations.InterruptEntrySavesPCAndMasks
  intro s k _
  obtain ⟨u, hu, hack, v, hv, hhigh, hlow⟩ := s.enterInterrupt_busWrites k
  exact ⟨⟨u, v, hu, hv.trans hu, hack, hhigh, hlow⟩, s.enterInterrupt_exceptMemory k⟩

/-- Settles O19: the check by what it finds; the bit it enters is the lowest one (`lowestSetBit_spec`). -/
theorem interruptCheckTakesTheLowestPendingBit : Obligations.InterruptCheckTakesTheLowestPendingBit := by
  unfold Obligations.InterruptCheckTakesTheLowestPendingBit
  intro s pend woken
  refine ⟨State.interruptCheck_of_absent, State.interruptCheck_of_fault, State.interruptCheck_of_stopped,
    fun hd hs => ?_⟩
  have hcheck : s.interruptCheck = if pend = 0 then s else
      if s.ime then woken.dispatchInterrupt (lowestSetBit pend) else woken := State.interruptCheck_of_live hd hs
  refine ⟨fun hp => ?_, fun hp hime => ?_, fun hp hime => ?_⟩
  · rw [hcheck, if_pos hp]
  · rw [hcheck, if_neg hp, hime]
    rfl
  · obtain ⟨hlt, hset, hlow⟩ := lowestSetBit_spec hp s.pendingInterrupts_lt
    refine ⟨lowestSetBit pend, hlt, hset, hlow, ?_⟩
    rw [hcheck, if_neg hp, if_pos hime, State.dispatchInterrupt_eq]

/-- Settles O20: the Timer's advance of the Halted cycle keeps the request, so the check that follows it finds one;
with `ime` clear the check enters nothing. -/
theorem pendingRequestEndsHalted : Obligations.PendingRequestEndsHalted := by
  unfold Obligations.PendingRequestEndsHalted
  intro s hs hd hp
  have hpend : (s.charge haltedCycles).clocked.pendingInterrupts ≠ 0 := State.pendingInterrupts_clocked hp
  have ⟨hf, hst, _⟩ := hs
  refine ⟨s.haltedStep, step_inHalt hs, ?_, fun hime => ?_⟩
  · rw [State.haltedStep, State.completeStep_eq_check]
    exact State.interruptCheck_wakes (by simpa using hd) ⟨by simpa using hf, by simpa using hst⟩ hpend
  · obtain ⟨b, h⟩ := State.completeStep_no_entry (s := s.charge haltedCycles) hf (.inl hime)
    rw [State.haltedStep, h]
    simp [haltedCycles]

end
